-- ==== Sys2Proof/Word.lean ====
section
/-! DEFINITION. The byte, the byte sequence, the four-byte mask key and the word of the command port
(00_scope.md R9 to R11, 30_encoding.md R86). -/

namespace Sys2Proof

/-- "Every byte is 8 bits" (R9). -/
abbrev Byte := BitVec 8

/-- "`Bytes` is a finite list of 8-bit values", index 0 first on the wire (R11). -/
abbrev Bytes := List Byte

/-- "Opcode: 4 bits" (R9). -/
abbrev Opcode := BitVec 4

/-- The four mask-key bytes `key[0..3]` (R31). -/
structure MaskKey where
  k0 : Byte
  k1 : Byte
  k2 : Byte
  k3 : Byte
  deriving DecidableEq, Repr, Inhabited

/-- One command at the command port: the 8-bit command word `CW` "with operands beside it" (R86).
`bytes` carries the chunk, the payload or the body (absent where the command has none), `flag` carries
sentClose or ok, `tag` the tag. How the operands are laid beside the word is the model's (log 2). -/
structure Request where
  cw    : BitVec 8
  bytes : Option Bytes
  flag  : Bool
  tag   : Nat
  deriving DecidableEq, Repr

/-- What the decoder reads: two header bytes of a frame (R70), or a command (R86). -/
inductive Encoded where
  | frame   (b0 b1 : Byte)
  | command (r : Request)
  deriving DecidableEq, Repr

end Sys2Proof
end

