-- ==== Sys2Proof/Config.lean ====
section
/-! DEFINITION. The parameters of 00_scope.md R8: the constants the spec fixes, and the free values
(constants with no body) for what it leaves open. -/

namespace Sys2Proof.Config

/-- `SHORT_MAX`: the largest length carried in the 7-bit field (R8). -/
abbrev shortMax : Nat := 125

/-- `LEN16_SENTINEL` (R8). -/
abbrev len16Sentinel : Nat := 126

/-- `LEN64_SENTINEL` (R8). -/
abbrev len64Sentinel : Nat := 127

/-- `LEN16_MAX` (R8). -/
abbrev len16Max : Nat := 65535

/-- `CONTROL_MAX`: the control-frame payload cap (R8). -/
abbrev controlMax : Nat := 125

/-- `ENC_LEN_MAX`: the largest payload ENCODE admits (R8, R108). -/
abbrev encLenMax : Nat := 2 ^ 48 - 1

/-- The random-byte source at the decoder's draws, for its echo frames: the draw at counter n returns
these four bytes, under no law (R39, R209; log 4). FREE VALUE. -/
opaque rng4 : Nat → MaskKey

/-- The random-byte source at ENCODE's draws, one an ENCODE (R105), under no law (R39; log 4). It is apart
from the decoder's, as "ENCODE shares no state with the decoder" (R67). FREE VALUE. -/
opaque encodeRng4 : Nat → MaskKey

/-- The reason string of a Fail event: "a string whose value is left open (any string)" (R231; log 5).
FREE VALUE. -/
opaque failReason : Nat → String

/-- The two echo bytes when the CLOSE carried no code and ECHO_NO_CODE is not given: "a model not given
it takes the 2 bytes as a draw" (R211; log 10). FREE VALUE. -/
opaque echoBytes : Nat → BitVec 16

/-- `CLOSE_SIGNALS_DONE` as the instance was built with it: OPEN (R8, R132; log 9). FREE VALUE. -/
opaque closeSignalsDone : Bool

/-- The valid-status-code predicate on every code but 999 and 1000, whose values R37 fixes (log 6).
FREE VALUE. -/
opaque otherCodeValid : BitVec 16 → Bool

/-- The strict UTF-8 decoder on every byte sequence but the empty one, whose value R38 fixes (log 7).
FREE VALUE. -/
opaque utf8NonEmpty : Bytes → Option String

end Sys2Proof.Config
end

