-- ==== Sys2Proof/Syntax.lean ====
section
/-! DEFINITION. The instructions: one constructor per row of spec/opcode_table.json. The sixteen frame
opcodes carry the other fields of the header word (30_encoding.md R70); the five commands carry the
operands of R86. -/

namespace Sys2Proof

/-- A frame opcode's fields are FIN, RSV, MASK and LEN7 (R70). -/
inductive Instr where
  /-- R170. -/
  | continuation (fin : Bool) (rsv : BitVec 3) (mask : Bool) (len7 : BitVec 7)
  /-- R171. -/
  | text (fin : Bool) (rsv : BitVec 3) (mask : Bool) (len7 : BitVec 7)
  /-- R172. -/
  | binary (fin : Bool) (rsv : BitVec 3) (mask : Bool) (len7 : BitVec 7)
  /-- R173. -/
  | reserved3 (fin : Bool) (rsv : BitVec 3) (mask : Bool) (len7 : BitVec 7)
  /-- R174. -/
  | reserved4 (fin : Bool) (rsv : BitVec 3) (mask : Bool) (len7 : BitVec 7)
  /-- R175. -/
  | reserved5 (fin : Bool) (rsv : BitVec 3) (mask : Bool) (len7 : BitVec 7)
  /-- R176. -/
  | reserved6 (fin : Bool) (rsv : BitVec 3) (mask : Bool) (len7 : BitVec 7)
  /-- R177. -/
  | reserved7 (fin : Bool) (rsv : BitVec 3) (mask : Bool) (len7 : BitVec 7)
  /-- R178. -/
  | close (fin : Bool) (rsv : BitVec 3) (mask : Bool) (len7 : BitVec 7)
  /-- R179. -/
  | ping (fin : Bool) (rsv : BitVec 3) (mask : Bool) (len7 : BitVec 7)
  /-- R180. -/
  | pong (fin : Bool) (rsv : BitVec 3) (mask : Bool) (len7 : BitVec 7)
  /-- R181. -/
  | reservedB (fin : Bool) (rsv : BitVec 3) (mask : Bool) (len7 : BitVec 7)
  /-- R182. -/
  | reservedC (fin : Bool) (rsv : BitVec 3) (mask : Bool) (len7 : BitVec 7)
  /-- R183. -/
  | reservedD (fin : Bool) (rsv : BitVec 3) (mask : Bool) (len7 : BitVec 7)
  /-- R184. -/
  | reservedE (fin : Bool) (rsv : BitVec 3) (mask : Bool) (len7 : BitVec 7)
  /-- R185. -/
  | reservedF (fin : Bool) (rsv : BitVec 3) (mask : Bool) (len7 : BitVec 7)
  /-- R130. -/
  | ingest (chunk : Bytes) (sentClose : Bool)
  /-- R100. -/
  | encode (op : Opcode) (payload : Option Bytes)
  /-- R200. -/
  | cbdFull (body : Bytes)
  /-- R202. -/
  | cbdCode (body : Bytes)
  /-- R212. -/
  | wrdone (tag : Nat) (ok : Bool)
  deriving DecidableEq, Repr

end Sys2Proof
end

