-- ==== Sys2Proof/WellFormed.lean ====
section
/-! DEFINITION. Which instructions are well formed. Every width is in the types of `Instr`, so the one
check left is ENCODE's length range (40_frame_encoder.md R108). An ill-formed ENCODE still has its
command word, so the decoder gives it, and the machine refuses it by name. -/

namespace Sys2Proof

/-- ENCODE admits a payload of at most ENC_LEN_MAX bytes (R108); every other term is well formed. -/
def Instr.wellFormed : Instr → Bool
  | .continuation _ _ _ _ => true
  | .text _ _ _ _ => true
  | .binary _ _ _ _ => true
  | .reserved3 _ _ _ _ => true
  | .reserved4 _ _ _ _ => true
  | .reserved5 _ _ _ _ => true
  | .reserved6 _ _ _ _ => true
  | .reserved7 _ _ _ _ => true
  | .close _ _ _ _ => true
  | .ping _ _ _ _ => true
  | .pong _ _ _ _ => true
  | .reservedB _ _ _ _ => true
  | .reservedC _ _ _ _ => true
  | .reservedD _ _ _ _ => true
  | .reservedE _ _ _ _ => true
  | .reservedF _ _ _ _ => true
  | .ingest _ _ => true
  | .encode _ none => true
  | .encode _ (some p) => decide (p.length ≤ Config.encLenMax)
  | .cbdFull _ => true
  | .cbdCode _ => true
  | .wrdone _ _ => true

end Sys2Proof
end

