-- ==== Sys2Proof/Decode.lean ====
section
/-! DEFINITION. The decoder and, after it, the encoder: the header word of a frame (30_encoding.md R70,
R78) and the command word of the port (R86). Total, rejecting by name. -/

namespace Sys2Proof

/-- Why the decoder gives no instruction. -/
inductive DecodeError where
  /-- "A command word that matches no row is refused" (R86). Raised by `decodeRequest`. Safe. -/
  | unknownCommandWord (cw : BitVec 8)
  /-- Fewer than the two header bytes (R133). Raised by `decodeFrame`. Safe. -/
  | shortHeader
  deriving DecidableEq, Repr

/-- FIN is bit 7 of byte 0 (R70). -/
def finOf (b0 : Byte) : Bool := b0.getLsbD 7

/-- RSV is bits 6:4 of byte 0 (R70). -/
def rsvOf (b0 : Byte) : BitVec 3 := b0.extractLsb' 4 3

/-- OPCODE is bits 3:0 of byte 0 (R70). -/
def opcodeOf (b0 : Byte) : Opcode := b0.extractLsb' 0 4

/-- MASK is bit 7 of byte 1 (R70). -/
def maskOf (b1 : Byte) : Bool := b1.getLsbD 7

/-- LEN7 is bits 6:0 of byte 1 (R70). -/
def len7Of (b1 : Byte) : BitVec 7 := b1.extractLsb' 0 7

/-- The opcode map of R78, by the four bits of OPCODE, bit 3 first. -/
def frameInstr (op : Opcode) (fin : Bool) (rsv : BitVec 3) (mask : Bool) (len7 : BitVec 7) : Instr :=
  match op.getLsbD 3, op.getLsbD 2, op.getLsbD 1, op.getLsbD 0 with
  | false, false, false, false => .continuation fin rsv mask len7
  | false, false, false, true  => .text fin rsv mask len7
  | false, false, true,  false => .binary fin rsv mask len7
  | false, false, true,  true  => .reserved3 fin rsv mask len7
  | false, true,  false, false => .reserved4 fin rsv mask len7
  | false, true,  false, true  => .reserved5 fin rsv mask len7
  | false, true,  true,  false => .reserved6 fin rsv mask len7
  | false, true,  true,  true  => .reserved7 fin rsv mask len7
  | true,  false, false, false => .close fin rsv mask len7
  | true,  false, false, true  => .ping fin rsv mask len7
  | true,  false, true,  false => .pong fin rsv mask len7
  | true,  false, true,  true  => .reservedB fin rsv mask len7
  | true,  true,  false, false => .reservedC fin rsv mask len7
  | true,  true,  false, true  => .reservedD fin rsv mask len7
  | true,  true,  true,  false => .reservedE fin rsv mask len7
  | true,  true,  true,  true  => .reservedF fin rsv mask len7

/-- The frame opcode of two header bytes (R70, R78). Every header word is some row's. -/
def decodeHeader (b0 b1 : Byte) : Instr :=
  frameInstr (opcodeOf b0) (finOf b0) (rsvOf b0) (maskOf b1) (len7Of b1)

/-- A frame header at the head of a byte stream, with the rest of the stream (R133 reads the first two
bytes). -/
def decodeFrame : Bytes → Except DecodeError (Instr × Bytes)
  | b0 :: b1 :: rest => .ok (decodeHeader b0 b1, rest)
  | _ => .error .shortHeader

/-- The command of a request (R86). A byte operand that is absent where the command needs one is read
as empty (log 2). -/
def decodeRequest (r : Request) : Except DecodeError Instr :=
  if r.cw = 0x00 then .ok (.ingest (r.bytes.getD []) r.flag)
  else if r.cw.extractLsb' 0 4 = 0x1 then .ok (.encode (r.cw.extractLsb' 4 4) r.bytes)
  else if r.cw = 0x02 then .ok (.cbdFull (r.bytes.getD []))
  else if r.cw = 0x06 then .ok (.cbdCode (r.bytes.getD []))
  else if r.cw = 0x03 then .ok (.wrdone r.tag r.flag)
  else .error (.unknownCommandWord r.cw)

/-- The decoder, on a header or a command. -/
def decode : Encoded → Except DecodeError Instr
  | .frame b0 b1 => .ok (decodeHeader b0 b1)
  | .command r => decodeRequest r

/-- The two bytes of a header word, byte 0 first: `HW = byte0 * 256 + byte1` (R70). -/
def headerBytes (hw : Nat) : Byte × Byte := (BitVec.ofNat 8 (hw / 256), BitVec.ofNat 8 hw)

/-- A command word with no operand beside it: no bytes, and zeros. -/
def bareRequest (cw : Nat) : Request := ⟨BitVec.ofNat 8 cw, none, false, 0⟩

/-- The instruction the decoder reads from a word of the opcode table: 16 bits are a header word
(format hdr16), 8 bits a command word (format cmd8). -/
def decodeTableWord (nbits w : Nat) : Option Instr :=
  if nbits = 16 then
    match decodeFrame [(headerBytes w).1, (headerBytes w).2] with
    | .ok (i, _) => some i
    | .error _ => none
  else if nbits = 8 then
    match decodeRequest (bareRequest w) with
    | .ok i => some i
    | .error _ => none
  else none

/-- The header bytes of R70 from their fields. -/
def encodeHeader (op : Opcode) (fin : Bool) (rsv : BitVec 3) (mask : Bool) (len7 : BitVec 7) : Encoded :=
  .frame (BitVec.ofBool fin ++ rsv ++ op) (BitVec.ofBool mask ++ len7)

/-- The words of an instruction, from the encoding tables of R70, R78 and R86. -/
def encode : Instr → Encoded
  | .continuation fin rsv mask len7 => encodeHeader 0x0 fin rsv mask len7
  | .text fin rsv mask len7 => encodeHeader 0x1 fin rsv mask len7
  | .binary fin rsv mask len7 => encodeHeader 0x2 fin rsv mask len7
  | .reserved3 fin rsv mask len7 => encodeHeader 0x3 fin rsv mask len7
  | .reserved4 fin rsv mask len7 => encodeHeader 0x4 fin rsv mask len7
  | .reserved5 fin rsv mask len7 => encodeHeader 0x5 fin rsv mask len7
  | .reserved6 fin rsv mask len7 => encodeHeader 0x6 fin rsv mask len7
  | .reserved7 fin rsv mask len7 => encodeHeader 0x7 fin rsv mask len7
  | .close fin rsv mask len7 => encodeHeader 0x8 fin rsv mask len7
  | .ping fin rsv mask len7 => encodeHeader 0x9 fin rsv mask len7
  | .pong fin rsv mask len7 => encodeHeader 0xA fin rsv mask len7
  | .reservedB fin rsv mask len7 => encodeHeader 0xB fin rsv mask len7
  | .reservedC fin rsv mask len7 => encodeHeader 0xC fin rsv mask len7
  | .reservedD fin rsv mask len7 => encodeHeader 0xD fin rsv mask len7
  | .reservedE fin rsv mask len7 => encodeHeader 0xE fin rsv mask len7
  | .reservedF fin rsv mask len7 => encodeHeader 0xF fin rsv mask len7
  | .ingest chunk sentClose => .command ⟨0x00, some chunk, sentClose, 0⟩
  | .encode op payload => .command ⟨op ++ (0x1 : BitVec 4), payload, false, 0⟩
  | .cbdFull body => .command ⟨0x02, some body, false, 0⟩
  | .cbdCode body => .command ⟨0x06, some body, false, 0⟩
  | .wrdone tag ok => .command ⟨0x03, none, ok, tag⟩

end Sys2Proof
end

