-- ==== Sys2Proof/Machine/State.lean ====
section
/-! DEFINITION. The state of one decoder instance with what its ports show (10_state.md R21, R29), the
output events (00_scope.md R13), the reasons a step can stop, and the state after construction
(70_reset_and_hazards.md R260). -/

namespace Sys2Proof.Machine

/-- R22: "exactly one active at a time". -/
inductive ParserState where
  | awaitingHeader
  | awaitingExtended16Length
  | awaitingExtended64Length
  | awaitingPayload
  deriving DecidableEq, Repr

/-- The failure causes of R230. -/
inductive FailCause where
  | fragmentedControl
  | controlTooLong
  | closeOneByte
  | closeBodyInvalid
  deriving DecidableEq, Repr

/-- R32: "either `Invalid` or `Valid(code: Option UInt16, reason: Option String)`". -/
inductive CloseBodyResult where
  | invalid
  | valid (code : Option (BitVec 16)) (reason : Option String)
  deriving DecidableEq, Repr

/-- The output events of R13. -/
inductive Event where
  | dispatch (op : Opcode) (payload : Bytes)
  | fail (cause : FailCause) (reason : String)
  | txWrite (tag : Nat) (frame : Bytes)
  | setReadyStateClosing
  | setReceivedClose
  | setSentClose
  | done
  | encOut (frame : Bytes)
  | cbdOut (r : CloseBodyResult)
  deriving DecidableEq, Repr

/-- The connection's readyState as the port shows it. CLOSING is the only value the spec names (R29);
`connectionOwn` is whatever the connection object holds (R260; log 12). -/
inductive ReadyState where
  | connectionOwn
  | closing
  deriving DecidableEq, Repr

/-- The configuration that is plain data, "fixed at construction for the life of the instance" (R260,
R8). `bufCap = none` is unbounded; `echoNoCode = none` is "not given" (R211). -/
structure Params where
  bufCap           : Option Nat
  closeSignalsDone : Bool
  echoNoCode       : Option (BitVec 16)
  deriving DecidableEq, Repr

/-- The state. `pstate` to `nextTag` are the decoder instance (R21). `sentClose`, `receivedClose` and
`readyState` are the connection's flags as the ports show them (R29; log 11). `events` is every event
put out since construction, oldest first (R57, R60; log 13). `port`, `driving`, `draws` and `encodeDraws`
are the model's own: the commands waiting at the command port (log 2), whether a drive loop is running
(log 16), and how many free values the decoder and ENCODE have drawn, each its own (R67; log 4). -/
structure State where
  pstate        : ParserState
  buf           : Bytes
  fFin          : Option Bool
  fOp           : Option Opcode
  fLen          : Option (BitVec 64)
  failed        : Bool
  inflight      : List Nat
  nextTag       : Nat
  sentClose     : Bool
  receivedClose : Bool
  readyState    : ReadyState
  cfg           : Params
  events        : List Event
  port          : List Request
  driving       : Bool
  draws         : Nat
  encodeDraws   : Nat
  deriving DecidableEq, Repr

/-- Why the machine is stuck. -/
inductive Fault where
  /-- An INGEST whose chunk would make `count > BUF_CAP`: "stuck: the transaction has no step" (R25,
  R146). Raised by INGEST. Safe. -/
  | bufferOverflow
  /-- A payload step whose opcode or length field is `none`: no rule says what it does. Raised by the
  payload step, in states that no run reaches (log 17). Safe. -/
  | unwrittenFrameField
  deriving DecidableEq, Repr

/-- Why a command has no meaning. -/
inductive Refusal where
  /-- An instruction the model gives no meaning yet. Raised by `exec` alone. Safe. -/
  | notModelled (mnemonic : String)
  /-- ENCODE with `L >= 2^48`: "the model refuses the command and gives it no meaning" (R108). Raised by
  ENCODE. Safe. -/
  | payloadTooLong
  /-- A command word that matches no row (R86). Raised by the step. Safe. -/
  | unknownCommandWord (cw : BitVec 8)
  deriving DecidableEq, Repr

/-- The state after construction (R260, R41). -/
def State.reset : State where
  pstate := .awaitingHeader
  buf := []
  fFin := none
  fOp := none
  fLen := none
  failed := false
  inflight := []
  nextTag := 0
  sentClose := false
  receivedClose := false
  readyState := .connectionOwn
  cfg := { bufCap := none, closeSignalsDone := Config.closeSignalsDone, echoNoCode := none }
  events := []
  port := []
  driving := false
  draws := 0
  encodeDraws := 0

end Sys2Proof.Machine
end

