-- ==== Sys2Proof/Machine/Ops.lean ====
section
/-! DEFINITION. The named operations: the accumulation buffer (00_scope.md R12), the event list, the
draws, the set of write tags, the failure sequence (60_exceptions.md R233) and the exits of the drive
loop (41_decoder_ingest.md R131, R132). -/

namespace Sys2Proof.Machine

/-- What an instruction answers. -/
abbrev Result := Host.Outcome State Fault Refusal

/-- "A parser step returns one of `Progress`, `NeedMore`, `Failure(cause)` or `CloseExit`"
(41_decoder_ingest.md, its opening). -/
inductive StepResult where
  | progress
  | needMore
  | failure (c : FailCause)
  | closeExit
  deriving DecidableEq, Repr

/-- A parser step's answer: the state after it and its result, or the reason there is none. -/
abbrev Parsed := Except Fault (State × StepResult)

/-- `count = |buf|` (R21). -/
abbrev State.count (s : State) : Nat := s.buf.length

/-- `MemRead(off, n)`: n bytes from offset off, not removed (R12). -/
def State.memRead (off n : Nat) (s : State) : Bytes := (s.buf.drop off).take n

/-- `Consume(n)` without its value: the first n bytes are gone (R12, R55). -/
def State.consume (n : Nat) (s : State) : State := { s with buf := s.buf.drop n }

/-- `Append(chunk)` (R12). -/
def State.append (chunk : Bytes) (s : State) : State := { s with buf := s.buf ++ chunk }

/-- `emit E` (R12). -/
def State.emit (e : Event) (s : State) : State := { s with events := s.events ++ [e] }

/-- The decoder's next draw is another one (R39; log 4). -/
def State.drawn (s : State) : State := { s with draws := s.draws + 1 }

/-- ENCODE's next draw is another one (R39, R109; log 4). The decoder does not read the counter (R67). -/
def State.encodeDrawn (s : State) : State := { s with encodeDraws := s.encodeDraws + 1 }

/-- The drive loop ends: `return` in R131. -/
def State.stopDrive (s : State) : State := { s with driving := false }

/-- "reset frame fields" (R28, R143). -/
def State.clearFrame (s : State) : State := { s with fFin := none, fOp := none, fLen := none }

/-- `inflight + {tag}`, the set kept as a strictly rising list (R27; log 14). -/
def insertTag (tag : Nat) : List Nat → List Nat
  | [] => [tag]
  | t :: ts => if tag < t then tag :: t :: ts else if tag = t then t :: ts else t :: insertTag tag ts

/-- `inflight - {tag}` (R212). -/
def removeTag (tag : Nat) : List Nat → List Nat
  | [] => []
  | t :: ts => if tag = t then removeTag tag ts else t :: removeTag tag ts

/-- Taking the connection-failure signal, `raise Fail(c)` (R233): Fail is emitted with any reason
string (R231), `failed` latches, "the drive loop returns at once: no Done, no further step". Nothing
else is written (log 18). There is no return from it (R237). -/
def raiseFail (c : FailCause) (s : State) : State :=
  { s with
    events := s.events ++ [.fail c (Config.failReason s.draws)]
    failed := true
    driving := false
    draws := s.draws + 1 }

/-- The need-more exit: `emit Done; return` (R131, R132 (a)). -/
def needMoreExit (s : State) : State := (s.emit .done).stopDrive

/-- The close exit: `if CLOSE_SIGNALS_DONE: emit Done`, then `return` (R131, R132 (c)). -/
def closeExit (s : State) : State :=
  if s.cfg.closeSignalsDone then (s.emit .done).stopDrive else s.stopDrive

/-- `case r of` in R131: what the drive loop does with a parser step's result. After Progress the loop
goes on (`driving` is left as it is). -/
def settle : Parsed → Result
  | .ok (s, .progress) => .next s
  | .ok (s, .needMore) => .next (needMoreExit s)
  | .ok (s, .failure c) => .next (raiseFail c s)
  | .ok (s, .closeExit) => .next (closeExit s)
  | .error f => .fault f

/-- A command is put at the front of the port. -/
def State.putRequest (r : Request) (s : State) : State := { s with port := r :: s.port }

end Sys2Proof.Machine
end

