-- ==== Sys2Proof/Machine/Operands.lean ====
section
/-! DEFINITION. The operand forms: big-endian fields (20_memory.md R50, 00_scope.md R11), the decoder's
length assembly (30_encoding.md R74), the encoder's length bytes (R75), the close code (R76), the opcode
classes (R79), and the spec's numberings (R22, R230). -/

namespace Sys2Proof.Machine

/-- A byte sequence as an unsigned big-endian number: the sum of R11. -/
def beNat (b : Bytes) : Nat := b.foldl (fun acc x => acc * 256 + x.toNat) 0

/-- `be16` of two bytes (R11). -/
def be16 (b : Bytes) : BitVec 16 := BitVec.ofNat 16 (beNat b)

/-- `be64` of eight bytes (R11). -/
def be64 (b : Bytes) : BitVec 64 := BitVec.ofNat 64 (beNat b)

/-- `isData(op)` (R79). -/
def isData (op : Opcode) : Bool := op == 0x0 || op == 0x1 || op == 0x2

/-- `isControl(op)` (R79). -/
def isControl (op : Opcode) : Bool := op == 0x8 || op == 0x9 || op == 0xA

/-- `isReserved(op)`: neither (R79). -/
def isReserved (op : Opcode) : Bool := !isData op && !isControl op

/-- Byte k of a length, byte 0 the least significant. -/
def lengthByte (len k : Nat) : Byte := BitVec.ofNat 8 (len / 256 ^ k)

/-- The header size H: 2, 4 or 10 (R71, R102). -/
def headerSize (len : Nat) : Nat :=
  if len ≤ Config.shortMax then 2 else if len ≤ Config.len16Max then 4 else 10

/-- Byte 1 and the extended-length bytes the encoder writes, the MASK bit 0x80 set (R75, R104). -/
def lengthBytes (len : Nat) : Bytes :=
  if len ≤ Config.shortMax then [0x80 ||| BitVec.ofNat 8 len]
  else if len ≤ Config.len16Max then
    [0x80 ||| BitVec.ofNat 8 Config.len16Sentinel, lengthByte len 1, lengthByte len 0]
  else
    [0x80 ||| BitVec.ofNat 8 Config.len64Sentinel, 0x00, 0x00,
      lengthByte len 5, lengthByte len 4, lengthByte len 3, lengthByte len 2, lengthByte len 1,
      lengthByte len 0]

/-- The extended-length bytes that follow a header with this LEN7: 0, 2 or 8 (R85). -/
def extendedBytes (len7 : BitVec 7) : Nat :=
  if len7.toNat ≤ Config.shortMax then 0 else if len7.toNat = Config.len16Sentinel then 2 else 8

/-- A frame's header word at the head of `buf`, the extended-length bytes it calls for as zeros, and a
drive loop running over it (log 3). DESIGN CHOICE: so it is also where `failed` is set, which no INGEST does
(R147; log 24). -/
def placeFrame (hw : Nat) (s : State) : State :=
  let b := headerBytes hw
  { s with
    buf := b.1 :: b.2 :: (List.replicate (extendedBytes (len7Of b.2)) 0x00 ++ s.buf)
    pstate := .awaitingHeader
    driving := true }

/-- A command word with no operand at the front of the port, no drive loop running (log 3). -/
def placeCommand (cw : Nat) (s : State) : State :=
  { (s.putRequest (bareRequest cw)) with driving := false }

/-- A close code as its two payload bytes, `[code[15:8], code[7:0]]` (R209). -/
def codeBytes (code : BitVec 16) : Bytes := [code.extractLsb' 8 8, code.extractLsb' 0 8]

/-- `key[i mod 4]` (R106). -/
def laneByte (key : MaskKey) (i : Nat) : Byte :=
  match i % 4 with
  | 0 => key.k0
  | 1 => key.k1
  | 2 => key.k2
  | _ => key.k3

/-- The key as the four bytes written before the payload (R105). -/
def keyBytes (key : MaskKey) : Bytes := [key.k0, key.k1, key.k2, key.k3]

/-- The numeric value of a parser state (R22). -/
def parserStateCode : ParserState → BitVec 2
  | .awaitingHeader => 0
  | .awaitingExtended16Length => 1
  | .awaitingExtended64Length => 2
  | .awaitingPayload => 3

/-- The numeric code of a failure cause (R230). -/
def failCauseCode : FailCause → Nat
  | .fragmentedControl => 1
  | .controlTooLong => 2
  | .closeOneByte => 3
  | .closeBodyInvalid => 4

end Sys2Proof.Machine
end

