-- ==== Sys2Proof/Machine/Flags.lean ====
section
/-! DEFINITION. The flags: the header checks that decide the failure latch (41_decoder_ingest.md R134 to
R136) and the writes of the connection's flags (10_state.md R29). The block has no other flag (R33). -/

namespace Sys2Proof.Machine

/-- The fragmentation check: FIN = 0 and not a data opcode (R134). -/
def fragmentedControl (op : Opcode) (fin : Bool) : Bool := !fin && !isData op

/-- The control-frame cap, on len7 (R135). -/
def controlTooLong (op : Opcode) (len7 : BitVec 7) : Bool :=
  isControl op && decide (Config.controlMax < len7.toNat)

/-- The header checks in the order of R136: the first that fails decides the cause. -/
def headerCheck (op : Opcode) (fin : Bool) (len7 : BitVec 7) : Option FailCause :=
  if fragmentedControl op fin then some .fragmentedControl
  else if controlTooLong op len7 then some .controlTooLong
  else none

/-- `emit SetSentClose`: "sentClose is written true" (R13, R212). -/
def State.writeSentClose (s : State) : State :=
  { s with sentClose := true, events := s.events ++ [.setSentClose] }

/-- `emit SetReceivedClose`: "receivedClose is written true" (R13, R210). -/
def State.writeReceivedClose (s : State) : State :=
  { s with receivedClose := true, events := s.events ++ [.setReceivedClose] }

/-- `emit SetReadyStateClosing`: "readyState is written to CLOSING" (R13, R210). -/
def State.writeReadyStateClosing (s : State) : State :=
  { s with readyState := .closing, events := s.events ++ [.setReadyStateClosing] }

end Sys2Proof.Machine
end

