-- ==== Sys2Proof/Machine/Encoder.lean ====
section
/-! DEFINITION. The frame encoder (40_frame_encoder.md R100 to R114). -/

namespace Sys2Proof.Machine

/-- Payload bytes XORed with the key, the first of them at index i (R106). -/
def maskFrom (key : MaskKey) : Nat → Bytes → Bytes
  | _, [] => []
  | i, b :: bs => (b ^^^ laneByte key i) :: maskFrom key (i + 1) bs

/-- Masking a payload: "the index i counts from the first payload byte" (R106). -/
def maskPayload (key : MaskKey) (p : Bytes) : Bytes := maskFrom key 0 p

/-- `EncodeFrame(op, p)` with the drawn key: byte 0 (R103), the length bytes (R104), the key (R105), the
masked payload (R106). -/
def encodeFrame (op : Opcode) (p : Bytes) (key : MaskKey) : Bytes :=
  ((0x80 : Byte) ||| op.setWidth 8) :: (lengthBytes p.length ++ keyBytes key ++ maskPayload key p)

/-- ENCODE (R100). An absent payload is an empty one (R101); `L > ENC_LEN_MAX` is refused (R108); the key
is one draw (R105), from a counter the decoder does not read (R67). -/
def execEncode (op : Opcode) (payload : Option Bytes) (s : State) : Result :=
  let p := payload.getD []
  if Config.encLenMax < p.length then .refused .payloadTooLong
  else .next ((s.emit (.encOut (encodeFrame op p (Config.encodeRng4 s.encodeDraws)))).encodeDrawn)

end Sys2Proof.Machine
end

