-- ==== Sys2Proof/Machine/CloseBody.lean ====
section
/-! DEFINITION. The close-body decode in its two modes (43_close_handling.md R200 to R203). -/

namespace Sys2Proof.Machine

/-- The valid-status-code predicate: "`isValidStatusCode(999) = false` and `isValidStatusCode(1000) =
true`" (R37); the other codes are open (log 6). -/
def isValidStatusCode (code : BitVec 16) : Bool :=
  if code = 999 then false else if code = 1000 then true else Config.otherCodeValid code

/-- The strict UTF-8 decoder: `utf8DecodeStrict([]) = some ""` (R38); the rest is open (log 7). -/
def utf8DecodeStrict : Bytes → Option String
  | [] => some ""
  | b :: bs => Config.utf8NonEmpty (b :: bs)

/-- The status code: the first two bytes, or absent (R76, steps 1 and 2 of R200). -/
def closeCode : Bytes → Option (BitVec 16)
  | c1 :: c0 :: _ => some (be16 [c1, c0])
  | _ => none

/-- One byte-order mark `EF BB BF` at the front is stripped (R201). -/
def stripBom : Bytes → Bytes
  | b0 :: b1 :: b2 :: rest =>
    if b0 = 0xEF ∧ b1 = 0xBB ∧ b2 = 0xBF then rest else b0 :: b1 :: b2 :: rest
  | b => b

/-- The reason bytes: those after byte 2, the mark stripped (R76, step 3 of R200). -/
def reasonBytes (b : Bytes) : Bytes := stripBom (b.drop 2)

/-- Step 4 of R200: a code that is present fails the predicate. -/
def codeRejected (code : Option (BitVec 16)) : Bool :=
  match code with
  | some c => !isValidStatusCode c
  | none => false

/-- `CloseBodyDecode(b, full)` (R200). -/
def closeBodyFull (b : Bytes) : CloseBodyResult :=
  if codeRejected (closeCode b) then .invalid
  else match utf8DecodeStrict (reasonBytes b) with
    | none => .invalid
    | some reason => .valid (closeCode b) (some reason)

/-- `CloseBodyDecode(b, codeOnly)` (R202): the reason bytes are never read. -/
def closeBodyCodeOnly (b : Bytes) : CloseBodyResult :=
  if codeRejected (closeCode b) then .invalid else .valid (closeCode b) none

/-- CBD_FULL (R200). -/
def execCbdFull (body : Bytes) (s : State) : Result := .next (s.emit (.cbdOut (closeBodyFull body)))

/-- CBD_CODE (R202). -/
def execCbdCode (body : Bytes) (s : State) : Result := .next (s.emit (.cbdOut (closeBodyCodeOnly body)))

end Sys2Proof.Machine
end

