-- ==== Sys2Proof/Machine/Parser.lean ====
section
/-! DEFINITION. The parser steps (41_decoder_ingest.md R133 to R143) and the data path of a frame
(42_decoder_opcodes.md, its opening). -/

namespace Sys2Proof.Machine

/-- Ext16Step (R140, R142). -/
def ext16Step (s : State) : Parsed :=
  if s.count < 2 then .ok (s, .needMore)
  else .ok ({ s.consume 2 with
    fLen := some ((be16 (s.memRead 0 2)).setWidth 64), pstate := .awaitingPayload }, .progress)

/-- Ext64Step (R141, R142). -/
def ext64Step (s : State) : Parsed :=
  if s.count < 8 then .ok (s, .needMore)
  else .ok ({ s.consume 8 with
    fLen := some (be64 (s.memRead 0 8)), pstate := .awaitingPayload }, .progress)

/-- PayloadStep (R143, R144). An unwritten opcode or length has no rule (log 17). -/
def payloadStep (s : State) : Parsed :=
  match s.fOp, s.fLen with
  | some op, some len =>
    if s.count < len.toNat then .ok (s, .needMore)
    else .ok ({ (((s.consume len.toNat).emit (.dispatch op (s.memRead 0 len.toNat))).clearFrame) with
      pstate := .awaitingHeader }, .progress)
  | _, _ => .error .unwrittenFrameField

/-- A parser step after another: the second runs only where the first made progress (the loop of R131
goes on after Progress and ends otherwise). -/
def andThen (r : Parsed) (f : State → Parsed) : Parsed :=
  match r with
  | .ok (s, .progress) => f s
  | r => r

/-- What is left of a frame whose header has been read: the steps R131 selects until `pstate` is
AwaitingHeader again (log 15). -/
def frameRest (s : State) : Parsed :=
  match s.pstate with
  | .awaitingHeader => .ok (s, .progress)
  | .awaitingExtended16Length => andThen (ext16Step s) payloadStep
  | .awaitingExtended64Length => andThen (ext64Step s) payloadStep
  | .awaitingPayload => payloadStep s

/-- The end of HeaderStep, from `Consume(2)` on (R133, R138, R139). -/
def enterFrame (op : Opcode) (fin : Bool) (len7 : BitVec 7) (s : State) : State :=
  let t := { s.consume 2 with fFin := some fin, fOp := some op }
  if len7.toNat ≤ Config.shortMax then
    { t with fLen := some (len7.setWidth 64), pstate := .awaitingPayload }
  else if len7.toNat = Config.len16Sentinel then { t with pstate := .awaitingExtended16Length }
  else { t with pstate := .awaitingExtended64Length }

/-- The data path: header step, extended-length step if len7 is 126 or 127, payload step. -/
def dataPath (op : Opcode) (fin : Bool) (len7 : BitVec 7) (s : State) : Parsed :=
  frameRest (enterFrame op fin len7 s)

/-- A frame's header: with fewer than two bytes it waits (R133); then the checks in their order (R136);
then the frame's own path. DESIGN CHOICE: `failed` is not read here; the spec runs no frame where it is set,
as INGEST is ignored then (R147; log 24). -/
def checkedFrame (op : Opcode) (fin : Bool) (len7 : BitVec 7) (path : State → Parsed) (s : State) :
    Parsed :=
  if s.count < 2 then .ok (s, .needMore)
  else match headerCheck op fin len7 with
    | some c => .ok (s, .failure c)
    | none => path s

/-- A frame that is not CLOSE (R170 to R177, R179 to R185): the checks, then the data path. -/
def dataFrame (op : Opcode) (fin : Bool) (len7 : BitVec 7) (s : State) : Result :=
  settle (checkedFrame op fin len7 (dataPath op fin len7) s)

end Sys2Proof.Machine
end

