-- ==== Sys2Proof/Machine/Close.lean ====
section
/-! DEFINITION. The close path (43_close_handling.md R204 to R211) and the completion of an echo write
(R212, R213). -/

namespace Sys2Proof.Machine

/-- The echo frame goes out under the next tag, which is in flight from then on (R205, R209). The frame
has its own key draw (R209). -/
def writeEcho (payload : Bytes) (s : State) : State :=
  { s with
    events := s.events ++ [.txWrite s.nextTag (encodeFrame 0x8 payload (Config.rng4 s.draws))]
    inflight := insertTag s.nextTag s.inflight
    nextTag := s.nextTag + 1
    draws := s.draws + 1 }

/-- The echo of a CLOSE: its code (R209); where it carried none, ECHO_NO_CODE, or a draw where that is
not given (R211). -/
def echo (code : Option (BitVec 16)) (s : State) : State :=
  match code with
  | some c => writeEcho (codeBytes c) s
  | none =>
    match s.cfg.echoNoCode with
    | some e => writeEcho (codeBytes e) s
    | none => writeEcho (codeBytes (Config.echoBytes s.draws)) s.drawn

/-- The flag writes, in the order of R210. -/
def acceptClose (s : State) : State := s.writeReadyStateClosing.writeReceivedClose

/-- ClosePath (R205): the one-byte check (R204), the wait, the decode (R206), the echo if sentClose reads
false (R208), the flag writes. -/
def closePath (len7 : BitVec 7) (s : State) : Parsed :=
  if len7.toNat = 1 then .ok (s, .failure .closeOneByte)
  else if s.count < 2 + len7.toNat then .ok (s, .needMore)
  else
    let t := (s.consume 2).consume len7.toNat
    match closeBodyFull ((s.consume 2).memRead 0 len7.toNat) with
    | .invalid => .ok (t, .failure .closeBodyInvalid)
    | .valid code _ => .ok (acceptClose (if t.sentClose then t else echo code t), .closeExit)

/-- CLOSE (R178). -/
def execClose (fin : Bool) (_rsv : BitVec 3) (_mask : Bool) (len7 : BitVec 7) (s : State) : Result :=
  settle (checkedFrame 0x8 fin len7 (closePath len7) s)

/-- WRDONE (R212, R213): an unknown tag is ignored; a failed write only removes the tag. -/
def execWrdone (tag : Nat) (ok : Bool) (s : State) : Result :=
  if tag ∈ s.inflight then
    let t := { s with inflight := removeTag tag s.inflight }
    .next (if ok then t.writeSentClose else t)
  else .next s

end Sys2Proof.Machine
end

