-- ==== Sys2Proof/Machine/Frames.lean ====
section
/-! DEFINITION. The frame opcodes other than CLOSE (42_decoder_opcodes.md R170 to R185). RSV and MASK are
not read (30_encoding.md R81, R82). -/

namespace Sys2Proof.Machine

/-- CONTINUATION (R170). -/
def execContinuation (fin : Bool) (_rsv : BitVec 3) (_mask : Bool) (len7 : BitVec 7) (s : State) : Result :=
  dataFrame 0x0 fin len7 s

/-- TEXT (R171). -/
def execText (fin : Bool) (_rsv : BitVec 3) (_mask : Bool) (len7 : BitVec 7) (s : State) : Result :=
  dataFrame 0x1 fin len7 s

/-- BINARY (R172). -/
def execBinary (fin : Bool) (_rsv : BitVec 3) (_mask : Bool) (len7 : BitVec 7) (s : State) : Result :=
  dataFrame 0x2 fin len7 s

/-- Reserved 0x3 (R173). -/
def execReserved3 (fin : Bool) (_rsv : BitVec 3) (_mask : Bool) (len7 : BitVec 7) (s : State) : Result :=
  dataFrame 0x3 fin len7 s

/-- Reserved 0x4 (R174). -/
def execReserved4 (fin : Bool) (_rsv : BitVec 3) (_mask : Bool) (len7 : BitVec 7) (s : State) : Result :=
  dataFrame 0x4 fin len7 s

/-- Reserved 0x5 (R175). -/
def execReserved5 (fin : Bool) (_rsv : BitVec 3) (_mask : Bool) (len7 : BitVec 7) (s : State) : Result :=
  dataFrame 0x5 fin len7 s

/-- Reserved 0x6 (R176). -/
def execReserved6 (fin : Bool) (_rsv : BitVec 3) (_mask : Bool) (len7 : BitVec 7) (s : State) : Result :=
  dataFrame 0x6 fin len7 s

/-- Reserved 0x7 (R177). -/
def execReserved7 (fin : Bool) (_rsv : BitVec 3) (_mask : Bool) (len7 : BitVec 7) (s : State) : Result :=
  dataFrame 0x7 fin len7 s

/-- PING (R179). -/
def execPing (fin : Bool) (_rsv : BitVec 3) (_mask : Bool) (len7 : BitVec 7) (s : State) : Result :=
  dataFrame 0x9 fin len7 s

/-- PONG (R180). -/
def execPong (fin : Bool) (_rsv : BitVec 3) (_mask : Bool) (len7 : BitVec 7) (s : State) : Result :=
  dataFrame 0xA fin len7 s

/-- Reserved 0xB (R181). -/
def execReservedB (fin : Bool) (_rsv : BitVec 3) (_mask : Bool) (len7 : BitVec 7) (s : State) : Result :=
  dataFrame 0xB fin len7 s

/-- Reserved 0xC (R182). -/
def execReservedC (fin : Bool) (_rsv : BitVec 3) (_mask : Bool) (len7 : BitVec 7) (s : State) : Result :=
  dataFrame 0xC fin len7 s

/-- Reserved 0xD (R183). -/
def execReservedD (fin : Bool) (_rsv : BitVec 3) (_mask : Bool) (len7 : BitVec 7) (s : State) : Result :=
  dataFrame 0xD fin len7 s

/-- Reserved 0xE (R184). -/
def execReservedE (fin : Bool) (_rsv : BitVec 3) (_mask : Bool) (len7 : BitVec 7) (s : State) : Result :=
  dataFrame 0xE fin len7 s

/-- Reserved 0xF (R185). -/
def execReservedF (fin : Bool) (_rsv : BitVec 3) (_mask : Bool) (len7 : BitVec 7) (s : State) : Result :=
  dataFrame 0xF fin len7 s

end Sys2Proof.Machine
end

