-- ==== Sys2Proof/Machine/Ingest.lean ====
section
/-! DEFINITION. INGEST and the drive loop (41_decoder_ingest.md R130 to R132, R146 to R150). -/

namespace Sys2Proof.Machine

/-- "The OPCODE field (HW[11:8]) selects the decoder's behaviour for a frame" (R78): the meaning of the
frame whose header has these fields, by the four bits of OPCODE, bit 3 first. -/
def runFrame (op : Opcode) (fin : Bool) (rsv : BitVec 3) (mask : Bool) (len7 : BitVec 7) (s : State) :
    Result :=
  match op.getLsbD 3, op.getLsbD 2, op.getLsbD 1, op.getLsbD 0 with
  | false, false, false, false => execContinuation fin rsv mask len7 s
  | false, false, false, true => execText fin rsv mask len7 s
  | false, false, true, false => execBinary fin rsv mask len7 s
  | false, false, true, true => execReserved3 fin rsv mask len7 s
  | false, true, false, false => execReserved4 fin rsv mask len7 s
  | false, true, false, true => execReserved5 fin rsv mask len7 s
  | false, true, true, false => execReserved6 fin rsv mask len7 s
  | false, true, true, true => execReserved7 fin rsv mask len7 s
  | true, false, false, false => execClose fin rsv mask len7 s
  | true, false, false, true => execPing fin rsv mask len7 s
  | true, false, true, false => execPong fin rsv mask len7 s
  | true, false, true, true => execReservedB fin rsv mask len7 s
  | true, true, false, false => execReservedC fin rsv mask len7 s
  | true, true, false, true => execReservedD fin rsv mask len7 s
  | true, true, true, false => execReservedE fin rsv mask len7 s
  | true, true, true, true => execReservedF fin rsv mask len7 s

/-- One pass of the drive loop (R131), over one frame: at AwaitingHeader the frame whose header stands at
the head of `buf` (with fewer than two bytes, the need-more exit: R133); otherwise the rest of the frame
in progress. A frame's own steps run in one pass (log 15). -/
def drivePass (s : State) : Result :=
  match s.pstate with
  | .awaitingHeader =>
    match s.buf with
    | b0 :: b1 :: _ => runFrame (opcodeOf b0) (finOf b0) (rsvOf b0) (maskOf b1) (len7Of b1) s
    | _ => settle (.ok (s, .needMore))
  | _ => settle (frameRest s)

/-- The bound of R149 on the steps of a drive loop over this buffer. -/
def driveFuel (s : State) : Nat := 3 * (s.count / 2) + 2

/-- The drive loop (R131): passes until one ends it, at most `fuel` of them. -/
def drive : Nat → State → Result
  | 0, s => .next s
  | fuel + 1, s =>
    if s.driving then
      match drivePass s with
      | .next t => drive fuel t
      | .fault f => .fault f
      | .refused r => .refused r
    else .next s

/-- The chunk would make `count > BUF_CAP` (R25, R130). -/
def overCap (chunk : Bytes) (s : State) : Bool :=
  match s.cfg.bufCap with
  | some cap => decide (cap < s.count + chunk.length)
  | none => false

/-- INGEST up to its drive loop: the chunk appended (R130), and the connection's sentClose as it reads at
this transaction (R30). -/
def beginIngest (chunk : Bytes) (sentClose : Bool) (s : State) : State :=
  { s.append chunk with sentClose := sentClose, driving := true }

/-- INGEST (R130): nothing after a failure (R147), stuck over the cap (R146), otherwise the drive loop. -/
def execIngest (chunk : Bytes) (sentClose : Bool) (s : State) : Result :=
  if s.failed then .next s
  else if overCap chunk s then .fault .bufferOverflow
  else drive (driveFuel (beginIngest chunk sentClose s)) (beginIngest chunk sentClose s)

end Sys2Proof.Machine
end

