-- ==== Sys2Proof/Machine/Dispatch.lean ====
section
/-! DEFINITION. The meaning of each instruction: one arm per constructor of `Instr`. -/

namespace Sys2Proof.Machine

def exec (i : Instr) (s : State) : Host.Outcome State Fault Refusal :=
  match i with
  | .continuation fin rsv mask len7 => Sys2Proof.Machine.execContinuation fin rsv mask len7 s
  | .text fin rsv mask len7 => Sys2Proof.Machine.execText fin rsv mask len7 s
  | .binary fin rsv mask len7 => Sys2Proof.Machine.execBinary fin rsv mask len7 s
  | .reserved3 fin rsv mask len7 => Sys2Proof.Machine.execReserved3 fin rsv mask len7 s
  | .reserved4 fin rsv mask len7 => Sys2Proof.Machine.execReserved4 fin rsv mask len7 s
  | .reserved5 fin rsv mask len7 => Sys2Proof.Machine.execReserved5 fin rsv mask len7 s
  | .reserved6 fin rsv mask len7 => Sys2Proof.Machine.execReserved6 fin rsv mask len7 s
  | .reserved7 fin rsv mask len7 => Sys2Proof.Machine.execReserved7 fin rsv mask len7 s
  | .close fin rsv mask len7 => Sys2Proof.Machine.execClose fin rsv mask len7 s
  | .ping fin rsv mask len7 => Sys2Proof.Machine.execPing fin rsv mask len7 s
  | .pong fin rsv mask len7 => Sys2Proof.Machine.execPong fin rsv mask len7 s
  | .reservedB fin rsv mask len7 => Sys2Proof.Machine.execReservedB fin rsv mask len7 s
  | .reservedC fin rsv mask len7 => Sys2Proof.Machine.execReservedC fin rsv mask len7 s
  | .reservedD fin rsv mask len7 => Sys2Proof.Machine.execReservedD fin rsv mask len7 s
  | .reservedE fin rsv mask len7 => Sys2Proof.Machine.execReservedE fin rsv mask len7 s
  | .reservedF fin rsv mask len7 => Sys2Proof.Machine.execReservedF fin rsv mask len7 s
  | .ingest chunk sentClose => Sys2Proof.Machine.execIngest chunk sentClose s
  | .encode op payload => Sys2Proof.Machine.execEncode op payload s
  | .cbdFull body => Sys2Proof.Machine.execCbdFull body s
  | .cbdCode body => Sys2Proof.Machine.execCbdCode body s
  | .wrdone tag ok => Sys2Proof.Machine.execWrdone tag ok s

end Sys2Proof.Machine
end

