-- ==== Sys2Proof/Machine/Step.lean ====
section
/-! DEFINITION. One step of the machine: one transaction of the command port (00_scope.md R3, 20_memory.md
R56). -/

namespace Sys2Proof.Machine

/-- One step (log 1). Between transactions (`driving` is false, as after every transaction) the oldest
command at the port is taken and run to completion; a command word that matches no row is refused (R86);
with no command waiting, the block holds its state (R246). Where a drive loop is running, the step is one
pass of it: the frame whose header stands at the head of `buf`, or the rest of the frame in progress. -/
def step (s : State) : Host.Outcome State Fault Refusal :=
  if s.driving then drivePass s
  else
    match s.port with
    | [] => .next s
    | r :: rest =>
      match decodeRequest r with
      | .ok i => exec i { s with port := rest }
      | .error _ => .refused (.unknownCommandWord r.cw)

/-- The state with an instruction's word where the next step fetches it (log 3). 16 bits are a frame
header: its two bytes, and the extended-length bytes it calls for as zeros, at the head of `buf`, the
parser at AwaitingHeader and a drive loop running. Any other width is a command word at the front of the
port, its operands absent and zero. -/
def State.withFetchWord (s : State) (nbits w : Nat) : State :=
  if nbits = 16 then placeFrame w s else placeCommand w s

end Sys2Proof.Machine
end

