-- ==== Sys2Proof/Machine/Reference.lean ====
section
/-! DEFINITION. The drive loop as the pseudocode of 41_decoder_ingest.md writes it: HeaderStep over any
opcode (R133) and one parser step a pass (R131). The machine does not run it; a statement compares the
two. -/

namespace Sys2Proof.Machine

/-- HeaderStep, word for word (R133). -/
def headerStepR133 (s : State) : Parsed :=
  match s.buf with
  | h0 :: h1 :: _ =>
    let fin := finOf h0
    let op := opcodeOf h0
    let len7 := len7Of h1
    if fin = false ∧ isData op = false then .ok (s, .failure .fragmentedControl)
    else if isControl op = true ∧ 125 < len7.toNat then .ok (s, .failure .controlTooLong)
    else if op = 0x8 then closePath len7 s
    else if len7.toNat ≤ 125 then
      .ok ({ s.consume 2 with fFin := some fin, fOp := some op,
                              fLen := some (len7.setWidth 64), pstate := .awaitingPayload }, .progress)
    else if len7.toNat = 126 then
      .ok ({ s.consume 2 with fFin := some fin, fOp := some op,
                              pstate := .awaitingExtended16Length }, .progress)
    else
      .ok ({ s.consume 2 with fFin := some fin, fOp := some op,
                              pstate := .awaitingExtended64Length }, .progress)
  | _ => .ok (s, .needMore)

/-- "selects the step by `pstate`" (R131). -/
def parserStepR131 (s : State) : Parsed :=
  match s.pstate with
  | .awaitingHeader => headerStepR133 s
  | .awaitingExtended16Length => ext16Step s
  | .awaitingExtended64Length => ext64Step s
  | .awaitingPayload => payloadStep s

/-- DriveLoop (R131), at most `fuel` parser steps. -/
def driveLoopR131 : Nat → State → Result
  | 0, s => .next s
  | fuel + 1, s =>
    match parserStepR131 s with
    | .ok (t, .progress) => driveLoopR131 fuel t
    | r => settle r

end Sys2Proof.Machine
end

