-- ==== Sys2Proof/Safety.lean ====
section
/-! DEFINITION. The terms claims are stated in: the invariants of a decoder instance, readings of the event
list, and the hand-unmasking of an encoded frame. -/

namespace Sys2Proof.Machine

/-- The frame fields are written exactly as far as the parser has come (10_state.md R23, R28): none at
AwaitingHeader; FIN and opcode in the extended-length states; all three at AwaitingPayload. -/
def State.frameFieldsFit (s : State) : Bool :=
  match s.pstate with
  | .awaitingHeader => s.fFin.isNone && s.fOp.isNone && s.fLen.isNone
  | .awaitingExtended16Length => s.fFin.isSome && s.fOp.isSome && s.fLen.isNone
  | .awaitingExtended64Length => s.fFin.isSome && s.fOp.isSome && s.fLen.isNone
  | .awaitingPayload => s.fFin.isSome && s.fOp.isSome && s.fLen.isSome

/-- The frame in progress passed its header checks (41_decoder_ingest.md R145): it is no CLOSE (R207);
with FIN = 0 it is a data frame (R134); a control frame has a length of at most 125 (R135), so it is in no
extended-length state. -/
def State.frameChecked (s : State) : Bool :=
  match s.fOp with
  | none => true
  | some op =>
    op != 0x8 && !(s.fFin == some false && !isData op) &&
      !(isControl op && (match s.fLen with
        | some len => decide (Config.controlMax < len.toNat)
        | none => true))

/-- `inflight` in its one form: strictly rising (log 14). -/
def rising : List Nat → Bool
  | [] => true
  | [_] => true
  | a :: b :: rest => decide (a < b) && rising (b :: rest)

/-- Every tag in flight was handed out (R27). -/
def State.tagsIssued (s : State) : Bool := rising s.inflight && s.inflight.all (fun t => decide (t < s.nextTag))

/-- `count ≤ BUF_CAP` (R25). -/
def State.withinCap (s : State) : Bool :=
  match s.cfg.bufCap with
  | some cap => decide (s.count ≤ cap)
  | none => true

/-- No drive loop runs after a failure (R147, R233). -/
def State.stopsOnFailure (s : State) : Bool := !(s.failed && s.driving)

/-- The invariant of a decoder instance. -/
def State.Inv (s : State) : Prop :=
  s.frameFieldsFit = true ∧ s.frameChecked = true ∧ s.tagsIssued = true ∧ s.withinCap = true ∧
    s.stopsOnFailure = true

/-- The event is a Fail. -/
def Event.isFail : Event → Bool
  | .fail _ _ => true
  | _ => false

/-- The event is a Done. -/
def Event.isDone : Event → Bool
  | .done => true
  | _ => false

/-- How many Fail events have been put out. -/
def State.failCount (s : State) : Nat := s.events.countP Event.isFail

/-- How many accepted CLOSE frames have been signalled (R210). -/
def State.closesAccepted (s : State) : Nat := s.events.countP (fun e => e == .setReceivedClose)

/-- The events with the Done events removed (20_memory.md R53). -/
def State.eventsButDone (s : State) : List Event := s.events.filter (fun e => !e.isDone)

/-- The tags of the transport writes, in the order they were put out. -/
def writeTags : List Event → List Nat
  | [] => []
  | .txWrite tag _ :: es => tag :: writeTags es
  | _ :: es => writeTags es

/-- A Dispatch that the header checks allow: no CLOSE (R207), and at most 125 bytes for PING and PONG
(R135). Every other event is admitted. -/
def Event.dispatchAllowed : Event → Bool
  | .dispatch op payload => op != 0x8 && !(isControl op && decide (Config.controlMax < payload.length))
  | _ => true

/-- Unmasking an encoded frame by hand (40_frame_encoder.md R114): the MASK bit cleared, the four key
bytes after the H header bytes removed, the payload XORed with them. -/
def unmaskFrame (h : Nat) (frame : Bytes) : Bytes :=
  match frame.take h, (frame.drop h).take 4 with
  | b0 :: b1 :: ext, [k0, k1, k2, k3] =>
    b0 :: (b1 &&& 0x7F) :: (ext ++ maskPayload ⟨k0, k1, k2, k3⟩ (frame.drop (h + 4)))
  | _, _ => frame

/-- The data opcodes (R79) with their instructions. -/
def dataFrames : List (Opcode × (Bool → BitVec 3 → Bool → BitVec 7 → Instr)) :=
  [(0x0, .continuation), (0x1, .text), (0x2, .binary)]

/-- The reserved opcodes (R79) with their instructions. -/
def reservedFrames : List (Opcode × (Bool → BitVec 3 → Bool → BitVec 7 → Instr)) :=
  [(0x3, .reserved3), (0x4, .reserved4), (0x5, .reserved5), (0x6, .reserved6), (0x7, .reserved7),
    (0xB, .reservedB), (0xC, .reservedC), (0xD, .reservedD), (0xE, .reservedE), (0xF, .reservedF)]

/-- PING and PONG with their instructions. -/
def pingPongFrames : List (Opcode × (Bool → BitVec 3 → Bool → BitVec 7 → Instr)) :=
  [(0x9, .ping), (0xA, .pong)]

/-- CLOSE with its instruction. -/
def closeFrames : List (Opcode × (Bool → BitVec 3 → Bool → BitVec 7 → Instr)) := [(0x8, .close)]

/-- All sixteen frame opcodes with their instructions (R78). -/
def allFrames : List (Opcode × (Bool → BitVec 3 → Bool → BitVec 7 → Instr)) :=
  dataFrames ++ reservedFrames ++ pingPongFrames ++ closeFrames

/-- The state after a frame was dispatched and `rest` left in the buffer (R143). -/
def dispatched (op : Opcode) (payload rest : Bytes) (s : State) : State :=
  { s with
    pstate := .awaitingHeader, buf := rest, fFin := none, fOp := none, fLen := none
    events := s.events ++ [.dispatch op payload] }

/-- The state after a frame's bytes ran out in parser state `ps` with `rest` left in the buffer: the
need-more exit (R132 (a)). -/
def waiting (ps : ParserState) (op : Opcode) (fin : Bool) (len : Option (BitVec 64)) (rest : Bytes)
    (s : State) : State :=
  { s with
    pstate := ps, buf := rest, fFin := some fin, fOp := some op, fLen := len
    events := s.events ++ [.done], driving := false }

/-- The answer is the failure sequence from state s (R233): one Fail event with this cause and some
reason string, `failed` set, the drive loop ended, nothing else changed but the model's draw counter. -/
def failsWith (r : Result) (c : FailCause) (s : State) : Prop :=
  ∃ reason n, r = .next { s with
    events := s.events ++ [.fail c reason], failed := true, driving := false, draws := n }

/-- The chunk does not make `count` exceed BUF_CAP, where there is one (R25, R130). -/
def State.admits (chunk : Bytes) (s : State) : Prop :=
  ∀ cap, s.cfg.bufCap = some cap → s.buf.length + chunk.length ≤ cap

/-- Two header bytes of a CLOSE that passes its checks, with a body of LEN7 bytes (R134, R135, R204). -/
def closeHeader (b0 b1 : Byte) (body : Bytes) : Prop :=
  opcodeOf b0 = 0x8 ∧ finOf b0 = true ∧ (len7Of b1).toNat = body.length ∧ body.length ≤ 125 ∧
    body.length ≠ 1

/-- The frame is an echo of a CLOSE with this code, under some key (R209); of one without a code, with
ECHO_NO_CODE where it is given and any two bytes where it is not (R211). -/
def echoOf (cfg : Params) (code : Option (BitVec 16)) (frame : Bytes) : Prop :=
  ∃ (key : MaskKey) (e : BitVec 16), frame = encodeFrame 0x8 (codeBytes e) key ∧
    (∀ c, code = some c → e = c) ∧ (code = none → ∀ d, cfg.echoNoCode = some d → e = d)

/-- `ext` is the extended-length field that LEN7 calls for, and the frame's length is n (R74). -/
def frameLength (len7 : BitVec 7) (ext : Bytes) (n : Nat) : Prop :=
  (len7.toNat ≤ 125 ∧ ext = [] ∧ n = len7.toNat) ∨
  (len7 = 126 ∧ ext.length = 2 ∧ n = (be16 ext).toNat) ∨
  (len7 = 127 ∧ ext.length = 8 ∧ n = (be64 ext).toNat)

/-- Done, where the close exit signals it (R132 (c)). -/
def closeDone (s : State) : List Event := if s.cfg.closeSignalsDone then [.done] else []

end Sys2Proof.Machine
end

