-- ==== Sys2Proof/Certificates/Slice0/Obligations.lean ====
section
/-! DEFINITION. The statements for the provers, each from numbered rules of spec/. -/

open Sys2Proof Sys2Proof.Machine

/-- Decoding the encoded words of any instruction gives the instruction back. 30_encoding.md R70, R78,
R86, 00_scope.md R9. -/
def Obligations.DecodeInvertsEncode : Prop :=
  ∀ i : Instr, decode (encode i) = .ok i

/-- Every header word has one meaning: encoding the decoded header gives its two bytes back.
30_encoding.md R70, R78. -/
def Obligations.EncodeInvertsHeaderDecode : Prop :=
  ∀ b0 b1 : Byte, encode (decodeHeader b0 b1) = .frame b0 b1

/-- A 16-bit header word decodes by its fields FIN, RSV, OPCODE, MASK, LEN7. 30_encoding.md R70 (the
fields of HW) and R78 (the opcode map). -/
def Obligations.HeaderWordFields : Prop :=
  ∀ p ∈ allFrames, ∀ hw : Nat, hw < 65536 → BitVec.ofNat 4 (hw / 2 ^ 8) = p.1 →
    decodeTableWord 16 hw =
      some (p.2 (hw.testBit 15) (BitVec.ofNat 3 (hw / 2 ^ 12)) (hw.testBit 7) (BitVec.ofNat 7 hw))

/-- The command word selects the command; a word that matches no row is refused. R86. -/
def Obligations.CommandWordsSelectTheirCommand : Prop :=
  (∀ (chunk : Bytes) (flag : Bool) (tag : Nat),
    decodeRequest ⟨0b00000000, some chunk, flag, tag⟩ = .ok (.ingest chunk flag)) ∧
  (∀ (op : Opcode) (payload : Option Bytes) (flag : Bool) (tag : Nat),
    decodeRequest ⟨op ++ 0b0001#4, payload, flag, tag⟩ = .ok (.encode op payload)) ∧
  (∀ (body : Bytes) (flag : Bool) (tag : Nat),
    decodeRequest ⟨0b00000010, some body, flag, tag⟩ = .ok (.cbdFull body)) ∧
  (∀ (body : Bytes) (flag : Bool) (tag : Nat),
    decodeRequest ⟨0b00000110, some body, flag, tag⟩ = .ok (.cbdCode body)) ∧
  (∀ (bytes : Option Bytes) (flag : Bool) (tag : Nat),
    decodeRequest ⟨0b00000011, bytes, flag, tag⟩ = .ok (.wrdone tag flag)) ∧
  (∀ (s : State) (r : Request) (rest : List Request), s.driving = false → s.port = r :: rest →
    r.cw ≠ 0b00000000 → r.cw.extractLsb' 0 4 ≠ 0b0001#4 → r.cw ≠ 0b00000010 → r.cw ≠ 0b00000110 →
    r.cw ≠ 0b00000011 → step s = .refused (.unknownCommandWord r.cw))

/-- Words written out from the spec's encodings decode to their instructions. 30_encoding.md R70, R78,
R86. -/
def Obligations.WrittenOutWordsDecode : Prop :=
  decodeTableWord 16 0b1000000100000101 = some (.text true 0 false 5) ∧
  decodeTableWord 16 0b1000001001111110 = some (.binary true 0 false 126) ∧
  decodeTableWord 16 0b1000100000000010 = some (.close true 0 false 2) ∧
  decodeTableWord 16 0b0000100100000000 = some (.ping false 0 false 0) ∧
  decodeTableWord 16 0b1000101111111111 = some (.reservedB true 0 true 127) ∧
  decodeTableWord 8 0b00000000 = some (.ingest [] false) ∧
  decodeTableWord 8 0b00010001 = some (.encode 1 none) ∧
  decodeTableWord 8 0b00000010 = some (.cbdFull []) ∧
  decodeTableWord 8 0b00000110 = some (.cbdCode []) ∧
  decodeTableWord 8 0b00000011 = some (.wrdone 0 false)

/-- be16 and be64 are the unsigned big-endian numbers of their bytes. 00_scope.md R11, 20_memory.md R50. -/
def Obligations.BigEndianFields : Prop :=
  ∀ b0 b1 b2 b3 b4 b5 b6 b7 : Byte,
    (be16 [b0, b1]).toNat = b0.toNat * 256 + b1.toNat ∧
    (be64 [b0, b1, b2, b3, b4, b5, b6, b7]).toNat =
      b0.toNat * 256 ^ 7 + b1.toNat * 256 ^ 6 + b2.toNat * 256 ^ 5 + b3.toNat * 256 ^ 4 +
        b4.toNat * 256 ^ 3 + b5.toNat * 256 ^ 2 + b6.toNat * 256 + b7.toNat

/-- ENCODE emits exactly one event, EncOut, and changes nothing else. 40_frame_encoder.md R100, R101,
R105, R109, R111, R112, 20_memory.md R67. -/
def Obligations.EncodeEmitsOneFrame : Prop :=
  ∀ (op : Opcode) (payload : Option Bytes) (s : State), (payload.getD []).length ≤ 2 ^ 48 - 1 →
    exec (.encode op payload) s = .next { s with
      events := s.events ++ [.encOut (encodeFrame op (payload.getD []) (Config.encodeRng4 s.encodeDraws))]
      encodeDraws := s.encodeDraws + 1 }

/-- The encoded frame: size H + 4 + L, byte 0 = 0x80 | op, the key at H, the masked payload at H + 4.
R102, R103, R106. -/
def Obligations.EncodedFrameLayout : Prop :=
  ∀ (op : Opcode) (p : Bytes) (key : MaskKey), p.length ≤ 2 ^ 48 - 1 →
    let out := encodeFrame op p key
    let h := if p.length ≤ 125 then 2 else if p.length ≤ 65535 then 4 else 10
    out.length = h + 4 + p.length ∧
    out[0]? = some ((0x80 : Byte) ||| op.setWidth 8) ∧
    out[h]? = some key.k0 ∧ out[h + 1]? = some key.k1 ∧ out[h + 2]? = some key.k2 ∧
    out[h + 3]? = some key.k3 ∧
    ∀ i, i < p.length → out[h + 4 + i]? =
      p[i]?.map (fun b => b ^^^ (if i % 4 = 0 then key.k0 else if i % 4 = 1 then key.k1
        else if i % 4 = 2 then key.k2 else key.k3))

/-- The encoder's length bytes: 0x80 | L, or FE with 2 bytes, or FF with 8 bytes, big-endian. R75. -/
def Obligations.EncodedLengthBytes : Prop :=
  ∀ (op : Opcode) (p : Bytes) (key : MaskKey), p.length ≤ 2 ^ 48 - 1 →
    let out := encodeFrame op p key
    let len := p.length
    (len ≤ 125 → out[1]? = some ((0x80 : Byte) ||| BitVec.ofNat 8 len)) ∧
    (125 < len → len ≤ 65535 → out[1]? = some 0xFE ∧
      ∃ e1 e0 : Byte, out[2]? = some e1 ∧ out[3]? = some e0 ∧ e1.toNat * 256 + e0.toNat = len) ∧
    (65535 < len → out[1]? = some 0xFF ∧ out[2]? = some 0x00 ∧ out[3]? = some 0x00 ∧
      ∃ e5 e4 e3 e2 e1 e0 : Byte,
        out[4]? = some e5 ∧ out[5]? = some e4 ∧ out[6]? = some e3 ∧ out[7]? = some e2 ∧
        out[8]? = some e1 ∧ out[9]? = some e0 ∧
        e5.toNat * 256 ^ 5 + e4.toNat * 256 ^ 4 + e3.toNat * 256 ^ 3 + e2.toNat * 256 ^ 2 +
          e1.toNat * 256 + e0.toNat = len)

/-- Masking twice with one key gives the payload back. R113. -/
def Obligations.MaskingIsAnInvolution : Prop :=
  ∀ (key : MaskKey) (p : Bytes), maskPayload key (maskPayload key p) = p

/-- ENCODE of a payload of 2^48 bytes or more is refused. 40_frame_encoder.md R108 (For L >= 2^48 the
model refuses the command). -/
def Obligations.EncodeRefusesOverlongPayload : Prop :=
  ∀ (op : Opcode) (p : Bytes) (s : State), 2 ^ 48 ≤ p.length →
    exec (.encode op (some p)) s = .refused .payloadTooLong

/-- A frame from ENCODE, unmasked by hand, decodes to its opcode and payload; the state left by a
failure is the model's choice (log 18). 40_frame_encoder.md R114, 90_conflicts.md C11,
60_exceptions.md R233 (The model may leave them as they were at the failing step). -/
def Obligations.EncodeDecodeRoundTrip : Prop :=
  ∀ (op : Opcode) (p : Bytes) (key : MaskKey) (sc : Bool) (s : State),
    op ≠ 0x8 → p.length ≤ 2 ^ 48 - 1 → s.pstate = .awaitingHeader → s.buf = [] → s.failed = false →
    let h := if p.length ≤ 125 then 2 else if p.length ≤ 65535 then 4 else 10
    let frame := unmaskFrame h (encodeFrame op p key)
    s.admits frame →
    ((op = 0x9 ∨ op = 0xA → p.length ≤ 125) →
      exec (.ingest frame sc) s = .next { s with
        fFin := none, fOp := none, fLen := none, sentClose := sc, driving := false
        events := s.events ++ [.dispatch op p, .done] }) ∧
    ((op = 0x9 ∨ op = 0xA) → 125 < p.length →
      failsWith (exec (.ingest frame sc) s) .controlTooLong { s with buf := frame, sentClose := sc })

/-- CBD_FULL emits the full-mode close-body decode and nothing else. 43_close_handling.md R200, R201,
30_encoding.md R76. -/
def Obligations.CbdFullEmitsTheDecodedBody : Prop :=
  ∀ s : State,
    (∀ b : Bytes, b.length < 2 → exec (.cbdFull b) s =
      .next { s with events := s.events ++ [.cbdOut (.valid none (some ""))] }) ∧
    (∀ (c1 c0 : Byte) (rb : Bytes), exec (.cbdFull (c1 :: c0 :: rb)) s =
      .next { s with events := s.events ++ [.cbdOut (
        if isValidStatusCode (be16 [c1, c0]) = false then .invalid
        else match utf8DecodeStrict (stripBom rb) with
          | none => .invalid
          | some reason => .valid (some (be16 [c1, c0])) (some reason))] })

/-- The first three reason bytes EF BB BF are stripped, once; other reasons are kept whole.
43_close_handling.md R201 (strip them; the strip happens at most once). -/
def Obligations.OneByteOrderMarkIsStripped : Prop :=
  (∀ rest : Bytes, stripBom (0xEF :: 0xBB :: 0xBF :: rest) = rest) ∧
  (∀ b : Bytes, b.take 3 ≠ [0xEF, 0xBB, 0xBF] → stripBom b = b)

/-- CBD_CODE validates and returns the code and never reads the reason. 43_close_handling.md R202,
30_encoding.md R76. -/
def Obligations.CbdCodeEmitsTheCheckedCode : Prop :=
  ∀ s : State,
    (∀ b : Bytes, b.length < 2 → exec (.cbdCode b) s =
      .next { s with events := s.events ++ [.cbdOut (.valid none none)] }) ∧
    (∀ (c1 c0 : Byte) (rb : Bytes), exec (.cbdCode (c1 :: c0 :: rb)) s =
      .next { s with events := s.events ++ [.cbdOut (
        if isValidStatusCode (be16 [c1, c0]) = false then .invalid
        else .valid (some (be16 [c1, c0])) none)] })

/-- The body 03 E7 (code 999) is Invalid in both modes. R203. -/
def Obligations.Code999IsInvalid : Prop :=
  ∀ s : State,
    exec (.cbdFull [0x03, 0xE7]) s = .next { s with events := s.events ++ [.cbdOut .invalid] } ∧
    exec (.cbdCode [0x03, 0xE7]) s = .next { s with events := s.events ++ [.cbdOut .invalid] }

/-- WRDONE removes its tag from inflight and, if ok, writes sentClose true. 43_close_handling.md R212,
R213, 10_state.md R27. -/
def Obligations.WrdoneCompletesAWriteInFlight : Prop :=
  ∀ (tag : Nat) (s : State), tag ∈ s.inflight →
    (∃ l, (∀ u, u ∈ l ↔ u ∈ s.inflight ∧ u ≠ tag) ∧
      exec (.wrdone tag true) s = .next { s with
        inflight := l, sentClose := true, events := s.events ++ [.setSentClose] } ∧
      exec (.wrdone tag false) s = .next { s with inflight := l })

/-- WRDONE of a tag that is not in flight does nothing. 43_close_handling.md R212 (a tag that is unknown
or already completed is ignored). -/
def Obligations.WrdoneIgnoresAnUnknownTag : Prop :=
  ∀ (tag : Nat) (ok : Bool) (s : State), tag ∉ s.inflight → exec (.wrdone tag ok) s = .next s

/-- While failed is set, INGEST changes nothing and emits nothing. R147. -/
def Obligations.IngestAfterFailureDoesNothing : Prop :=
  ∀ (chunk : Bytes) (sc : Bool) (s : State), s.failed = true → exec (.ingest chunk sc) s = .next s

/-- An INGEST whose chunk would overflow BUF_CAP is stuck. 10_state.md R25, 41_decoder_ingest.md R130,
R146. -/
def Obligations.IngestOverTheCapIsStuck : Prop :=
  ∀ (chunk : Bytes) (sc : Bool) (s : State) (cap : Nat), s.failed = false → s.cfg.bufCap = some cap →
    cap < s.buf.length + chunk.length → exec (.ingest chunk sc) s = .fault .bufferOverflow

/-- Every INGEST runs to one of its three exits within the bound of R149. 41_decoder_ingest.md R131,
R132, R149, 60_exceptions.md R233. -/
def Obligations.IngestEndsInOneOfThreeWays : Prop :=
  ∀ (chunk : Bytes) (sc : Bool) (s : State), s.Inv → s.failed = false →
    s.admits chunk →
    ∃ t pre, exec (.ingest chunk sc) s = .next t ∧ t.driving = false ∧
      (∀ e ∈ pre, e.isFail = false ∧ e.isDone = false) ∧
      ((t.failed = false ∧ t.events = s.events ++ pre ++ [.done]) ∨
       (t.failed = true ∧ ∃ c reason, t.events = s.events ++ pre ++ [.fail c reason]) ∨
       (t.failed = false ∧ t.pstate = .awaitingHeader ∧
         t.events = s.events ++ pre ++ [.setReadyStateClosing, .setReceivedClose] ++ closeDone s))

/-- INGEST with too few bytes for the current step appends them and signals Done only.
41_decoder_ingest.md R133, R140 to R143, R148, 20_memory.md R54. -/
def Obligations.IngestWaitsForItsBytes : Prop :=
  ∀ (chunk : Bytes) (sc : Bool) (s : State), s.failed = false → s.admits chunk →
    let n := (s.buf ++ chunk).length
    ((s.pstate = .awaitingHeader ∧ n < 2) ∨ (s.pstate = .awaitingExtended16Length ∧ n < 2) ∨
      (s.pstate = .awaitingExtended64Length ∧ n < 8) ∨
      (s.pstate = .awaitingPayload ∧ ∃ op len, s.fOp = some op ∧ s.fLen = some len ∧ n < len.toNat)) →
    exec (.ingest chunk sc) s = .next { s with
      buf := s.buf ++ chunk, sentClose := sc, driving := false, events := s.events ++ [.done] }

/-- INGEST that brings the missing bytes of a waiting frame dispatches it. 41_decoder_ingest.md R131,
R140, R141, R143, R144. -/
def Obligations.IngestCompletesTheFrameInProgress : Prop :=
  ∀ (chunk payload rest ext : Bytes) (op : Opcode) (sc : Bool) (s : State),
    s.failed = false → s.admits chunk → s.fOp = some op → rest.length < 2 →
    s.buf ++ chunk = ext ++ payload ++ rest →
    ((s.pstate = .awaitingPayload ∧ ext = [] ∧ ∃ len, s.fLen = some len ∧ payload.length = len.toNat) ∨
     (s.pstate = .awaitingExtended16Length ∧ ext.length = 2 ∧ payload.length = (be16 ext).toNat) ∨
     (s.pstate = .awaitingExtended64Length ∧ ext.length = 8 ∧ payload.length = (be64 ext).toNat)) →
    exec (.ingest chunk sc) s = .next { s with
      pstate := .awaitingHeader, buf := rest, fFin := none, fOp := none, fLen := none
      sentClose := sc, driving := false, events := s.events ++ [.dispatch op payload, .done] }

/-- INGEST appends its chunk and runs the loop of R131 with the HeaderStep of R133. 41_decoder_ingest.md
R130, R131, R133 to R143, R149, 42_decoder_opcodes.md R170 to R186. -/
def Obligations.DriveLoopAgreesWithR131 : Prop :=
  (∀ s : State, s.driving = true → drive (driveFuel s) s = driveLoopR131 (driveFuel s) s) ∧
  (∀ (chunk : Bytes) (sc : Bool) (s : State) (n : Nat), s.failed = false → s.admits chunk →
    3 * ((s.buf ++ chunk).length / 2) + 2 ≤ n →
    exec (.ingest chunk sc) s =
      driveLoopR131 n { s with buf := s.buf ++ chunk, sentClose := sc, driving := true })

/-- Where the chunk boundary falls does not change the events, Done apart, unless a CLOSE is accepted.
20_memory.md R53, 41_decoder_ingest.md R131, R132. -/
def Obligations.ChunkingDoesNotChangeTheEvents : Prop :=
  ∀ (a b : Bytes) (sc : Bool) (s t : State), s.failed = false → s.admits (a ++ b) →
    exec (.ingest (a ++ b) sc) s = .next t → t.closesAccepted = s.closesAccepted →
    ∃ u v, exec (.ingest a sc) s = .next u ∧ exec (.ingest b sc) u = .next v ∧
      v.eventsButDone = t.eventsButDone ∧ v.failed = t.failed ∧
      (t.failed = false → v = { t with events := v.events })

/-- After an accepted CLOSE the rest of the buffer stays for the next INGEST. 41_decoder_ingest.md R132
(c), 43_close_handling.md R205, R208 to R211, 70_reset_and_hazards.md R270. -/
def Obligations.CloseExitLeavesTheRest : Prop :=
  ∀ (chunk body rest : Bytes) (b0 b1 : Byte) (sc : Bool) (code : Option (BitVec 16))
    (reason : Option String) (s : State),
    s.failed = false → s.admits chunk → s.pstate = .awaitingHeader →
    s.buf ++ chunk = b0 :: b1 :: (body ++ rest) → closeHeader b0 b1 body →
    closeBodyFull body = .valid code reason →
    ∃ t, exec (.ingest chunk sc) s = .next t ∧ t.buf = rest ∧ t.pstate = .awaitingHeader ∧
      t.driving = false ∧ t.failed = false ∧ t.receivedClose = true ∧ t.readyState = .closing ∧
      t.sentClose = sc ∧ t.fFin = s.fFin ∧ t.fOp = s.fOp ∧ t.fLen = s.fLen ∧ t.cfg = s.cfg ∧
      t.port = s.port ∧
      (sc = true → t.nextTag = s.nextTag ∧ t.inflight = s.inflight ∧
        t.events = s.events ++ [.setReadyStateClosing, .setReceivedClose] ++ closeDone s) ∧
      (sc = false → t.nextTag = s.nextTag + 1 ∧
        (∀ u, u ∈ t.inflight ↔ u ∈ s.inflight ∨ u = s.nextTag) ∧
        ∃ frame, echoOf s.cfg code frame ∧ t.events = s.events ++
          [.txWrite s.nextTag frame, .setReadyStateClosing, .setReceivedClose] ++ closeDone s)

/-- Two CLOSE frames parsed before a write completes are both echoed. 70_reset_and_hazards.md R270,
R272, 43_close_handling.md R205, R208 to R211. -/
def Obligations.SecondCloseEchoesAgain : Prop :=
  ∀ (a b body body' rest rest' : Bytes) (b0 b1 c0 c1 : Byte) (code code' : Option (BitVec 16))
    (reason reason' : Option String) (s : State),
    s.failed = false → s.admits a → s.pstate = .awaitingHeader →
    s.buf ++ a = b0 :: b1 :: (body ++ rest) → closeHeader b0 b1 body →
    closeBodyFull body = .valid code reason →
    rest ++ b = c0 :: c1 :: (body' ++ rest') → closeHeader c0 c1 body' →
    closeBodyFull body' = .valid code' reason' →
    ∃ t frame, exec (.ingest a false) s = .next t ∧ echoOf s.cfg code frame ∧
      t.events = s.events ++
        [.txWrite s.nextTag frame, .setReadyStateClosing, .setReceivedClose] ++ closeDone s ∧
      t.buf = rest ∧ s.nextTag ∈ t.inflight ∧
      ∀ u : State, u.pstate = t.pstate → u.buf = t.buf → u.failed = t.failed → u.cfg = t.cfg →
        u.nextTag = t.nextTag → u.admits b →
        ∃ v frame', exec (.ingest b false) u = .next v ∧ echoOf s.cfg code' frame' ∧
          v.events = u.events ++
            [.txWrite (s.nextTag + 1) frame', .setReadyStateClosing, .setReceivedClose] ++
            closeDone s ∧
          v.buf = rest' ∧ v.nextTag = s.nextTag + 2 ∧
          (∀ tag, tag ∈ v.inflight ↔ tag ∈ u.inflight ∨ tag = s.nextTag + 1)

/-- A received frame is treated the same whatever its RSV and MASK bits. 30_encoding.md R81, R82. -/
def Obligations.HeaderIgnoresRsvAndMask : Prop :=
  ∀ p ∈ allFrames, ∀ (fin : Bool) (rsv rsv' : BitVec 3) (mask mask' : Bool) (len7 : BitVec 7) (s : State),
    exec (p.2 fin rsv mask len7) s = exec (p.2 fin rsv' mask' len7) s

/-- A frame run with fewer than two bytes buffered consumes nothing and signals Done, by the model's
choice (log 20). 41_decoder_ingest.md R133 (if count < 2: return NeedMore). -/
def Obligations.HeaderWaitsForTwoBytes : Prop :=
  ∀ p ∈ allFrames, ∀ (fin : Bool) (rsv : BitVec 3) (mask : Bool) (len7 : BitVec 7) (s : State),
    s.buf.length < 2 → exec (p.2 fin rsv mask len7) s =
      .next { s with events := s.events ++ [.done], driving := false }

/-- A frame with LEN7 up to 125 and its payload buffered is dispatched with its opcode.
41_decoder_ingest.md R133, R138, R143, R144, 42_decoder_opcodes.md R170 to R177, R179 to R186. -/
def Obligations.ShortFrameIsDispatched : Prop :=
  ∀ p ∈ dataFrames ++ reservedFrames ++ pingPongFrames,
    ∀ (fin : Bool) (rsv : BitVec 3) (mask : Bool) (len7 : BitVec 7) (b0 b1 : Byte)
      (payload rest : Bytes) (s : State),
    (fin = true ∨ p ∈ dataFrames) → s.buf = b0 :: b1 :: (payload ++ rest) →
    len7.toNat ≤ 125 → payload.length = len7.toNat →
    exec (p.2 fin rsv mask len7) s = .next (dispatched p.1 payload rest s)

/-- A frame with LEN7 = 126 takes its length from two big-endian bytes and is dispatched.
41_decoder_ingest.md R139, R140, R143, 30_encoding.md R74, R83, 42_decoder_opcodes.md R186. -/
def Obligations.SixteenBitFrameIsDispatched : Prop :=
  ∀ p ∈ dataFrames ++ reservedFrames,
    ∀ (fin : Bool) (rsv : BitVec 3) (mask : Bool) (b0 b1 e1 e0 : Byte) (payload rest : Bytes) (s : State),
    (fin = true ∨ p ∈ dataFrames) → s.buf = b0 :: b1 :: e1 :: e0 :: (payload ++ rest) →
    payload.length = e1.toNat * 256 + e0.toNat →
    exec (p.2 fin rsv mask 126) s = .next (dispatched p.1 payload rest s)

/-- A frame with LEN7 = 127 takes its length from eight big-endian bytes and is dispatched.
41_decoder_ingest.md R139, R141, R143, 30_encoding.md R74, R83, 42_decoder_opcodes.md R186. -/
def Obligations.SixtyFourBitFrameIsDispatched : Prop :=
  ∀ p ∈ dataFrames ++ reservedFrames,
    ∀ (fin : Bool) (rsv : BitVec 3) (mask : Bool) (b0 b1 e7 e6 e5 e4 e3 e2 e1 e0 : Byte)
      (payload rest : Bytes) (s : State),
    (fin = true ∨ p ∈ dataFrames) →
    s.buf = b0 :: b1 :: e7 :: e6 :: e5 :: e4 :: e3 :: e2 :: e1 :: e0 :: (payload ++ rest) →
    payload.length = e7.toNat * 256 ^ 7 + e6.toNat * 256 ^ 6 + e5.toNat * 256 ^ 5 + e4.toNat * 256 ^ 4 +
      e3.toNat * 256 ^ 3 + e2.toNat * 256 ^ 2 + e1.toNat * 256 + e0.toNat →
    exec (p.2 fin rsv mask 127) s = .next (dispatched p.1 payload rest s)

/-- A frame with LEN7 up to 125 whose payload is not all buffered waits in AwaitingPayload.
41_decoder_ingest.md R132 (a), R133, R138, R143. -/
def Obligations.ShortFrameWaitsForItsPayload : Prop :=
  ∀ p ∈ dataFrames ++ reservedFrames ++ pingPongFrames,
    ∀ (fin : Bool) (rsv : BitVec 3) (mask : Bool) (len7 : BitVec 7) (b0 b1 : Byte) (rest : Bytes)
      (s : State),
    (fin = true ∨ p ∈ dataFrames) → s.buf = b0 :: b1 :: rest →
    len7.toNat ≤ 125 → rest.length < len7.toNat →
    exec (p.2 fin rsv mask len7) s =
      .next (waiting .awaitingPayload p.1 fin (some (len7.setWidth 64)) rest s)

/-- A frame with LEN7 = 126 or 127 whose length bytes are not all buffered waits in its extended state.
41_decoder_ingest.md R132 (a), R133, R139, R140 to R142. -/
def Obligations.ExtendedFrameWaitsForItsLength : Prop :=
  ∀ p ∈ dataFrames ++ reservedFrames,
    ∀ (fin : Bool) (rsv : BitVec 3) (mask : Bool) (b0 b1 : Byte) (rest : Bytes) (s : State),
    (fin = true ∨ p ∈ dataFrames) → s.buf = b0 :: b1 :: rest →
    (rest.length < 2 → exec (p.2 fin rsv mask 126) s =
      .next (waiting .awaitingExtended16Length p.1 fin s.fLen rest s)) ∧
    (rest.length < 8 → exec (p.2 fin rsv mask 127) s =
      .next (waiting .awaitingExtended64Length p.1 fin s.fLen rest s))

/-- A frame with an extended length whose payload is not all buffered waits in AwaitingPayload.
41_decoder_ingest.md R132 (a), R140, R141, R143, 30_encoding.md R74, R83. -/
def Obligations.ExtendedFrameWaitsForItsPayload : Prop :=
  ∀ p ∈ dataFrames ++ reservedFrames,
    ∀ (fin : Bool) (rsv : BitVec 3) (mask : Bool) (b0 b1 : Byte) (ext rest : Bytes) (s : State),
    (fin = true ∨ p ∈ dataFrames) → s.buf = b0 :: b1 :: (ext ++ rest) →
    (ext.length = 2 → rest.length < (be16 ext).toNat → exec (p.2 fin rsv mask 126) s =
      .next (waiting .awaitingPayload p.1 fin (some ((be16 ext).setWidth 64)) rest s)) ∧
    (ext.length = 8 → rest.length < (be64 ext).toNat → exec (p.2 fin rsv mask 127) s =
      .next (waiting .awaitingPayload p.1 fin (some (be64 ext)) rest s))

/-- FIN = 0 with a control or reserved opcode fails with FRAGMENTED_CONTROL, with a data opcode it does
not; the state left is the model's choice (log 18). 41_decoder_ingest.md R134, 60_exceptions.md R233
(The model may leave them as they were at the failing step). -/
def Obligations.FragmentedControlFails : Prop :=
  (∀ p ∈ reservedFrames ++ pingPongFrames ++ closeFrames,
    ∀ (rsv : BitVec 3) (mask : Bool) (len7 : BitVec 7) (b0 b1 : Byte) (rest : Bytes) (s : State),
    s.buf = b0 :: b1 :: rest →
    failsWith (exec (p.2 false rsv mask len7) s) .fragmentedControl s) ∧
  (∀ p ∈ dataFrames,
    ∀ (rsv : BitVec 3) (mask : Bool) (len7 : BitVec 7) (b0 b1 : Byte) (rest : Bytes) (s : State),
    s.buf = b0 :: b1 :: rest →
    ∃ t, exec (p.2 false rsv mask len7) s = .next t ∧ t.failed = s.failed ∧ t.failCount = s.failCount)

/-- A control frame with LEN7 above 125 fails with CONTROL_TOO_LONG, whatever bytes follow; the state
left is the model's choice (log 18). 41_decoder_ingest.md R135, R136, 60_exceptions.md R233 (The
model may leave them as they were at the failing step). -/
def Obligations.LongControlFrameFails : Prop :=
  ∀ p ∈ pingPongFrames ++ closeFrames,
    ∀ (rsv : BitVec 3) (mask : Bool) (len7 : BitVec 7) (b0 b1 : Byte) (rest : Bytes) (s : State),
    s.buf = b0 :: b1 :: rest → 125 < len7.toNat →
    failsWith (exec (p.2 true rsv mask len7) s) .controlTooLong s

/-- A CLOSE with LEN7 = 1 fails with CLOSE_ONE_BYTE, its body byte buffered or not; the state left is
the model's choice (log 18). 43_close_handling.md R204, 60_exceptions.md R233 (The model may leave
them as they were at the failing step). -/
def Obligations.OneByteCloseFails : Prop :=
  ∀ (rsv : BitVec 3) (mask : Bool) (b0 b1 : Byte) (rest : Bytes) (s : State),
    s.buf = b0 :: b1 :: rest → failsWith (exec (.close true rsv mask 1) s) .closeOneByte s

/-- A CLOSE whose body is not all buffered consumes nothing and waits. 43_close_handling.md R205. -/
def Obligations.CloseWaitsForItsBody : Prop :=
  ∀ (rsv : BitVec 3) (mask : Bool) (len7 : BitVec 7) (b0 b1 : Byte) (rest : Bytes) (s : State),
    s.buf = b0 :: b1 :: rest → len7.toNat ≤ 125 → len7.toNat ≠ 1 → rest.length < len7.toNat →
    exec (.close true rsv mask len7) s =
      .next { s with events := s.events ++ [.done], driving := false }

/-- A CLOSE whose body decodes Invalid fails with CLOSE_BODY_INVALID and writes no echo and no flag; the
state left is the model's choice (log 18). 43_close_handling.md R205, R206, 60_exceptions.md R233
(The model may leave them as they were at the failing step). -/
def Obligations.InvalidCloseBodyFails : Prop :=
  ∀ (rsv : BitVec 3) (mask : Bool) (len7 : BitVec 7) (b0 b1 : Byte) (body rest : Bytes) (s : State),
    s.buf = b0 :: b1 :: (body ++ rest) → body.length = len7.toNat → len7.toNat ≤ 125 →
    len7.toNat ≠ 1 → closeBodyFull body = .invalid →
    failsWith (exec (.close true rsv mask len7) s) .closeBodyInvalid { s with buf := rest }

/-- A CLOSE with a valid code, sentClose reading false, is echoed in the 8-byte frame of R209.
43_close_handling.md R205, R208 to R210, 40_frame_encoder.md R100 to R106. -/
def Obligations.CloseEchoesItsCode : Prop :=
  ∀ (rsv : BitVec 3) (mask : Bool) (len7 : BitVec 7) (b0 b1 c1 c0 : Byte) (rb rest : Bytes)
    (reason : String) (s : State),
    s.buf = b0 :: b1 :: c1 :: c0 :: (rb ++ rest) → len7.toNat = rb.length + 2 → len7.toNat ≤ 125 →
    closeBodyFull (c1 :: c0 :: rb) = .valid (some (be16 [c1, c0])) (some reason) →
    s.sentClose = false →
    ∃ l, (∀ u, u ∈ l ↔ u ∈ s.inflight ∨ u = s.nextTag) ∧
      exec (.close true rsv mask len7) s = .next { s with
        buf := rest, inflight := l, nextTag := s.nextTag + 1, receivedClose := true
        readyState := .closing, driving := false, draws := s.draws + 1
        events := s.events ++ [.txWrite s.nextTag
            [0x88, 0x82, (Config.rng4 s.draws).k0, (Config.rng4 s.draws).k1, (Config.rng4 s.draws).k2,
              (Config.rng4 s.draws).k3, c1 ^^^ (Config.rng4 s.draws).k0, c0 ^^^ (Config.rng4 s.draws).k1],
          .setReadyStateClosing, .setReceivedClose] ++ closeDone s }

/-- A CLOSE accepted while sentClose reads true is not echoed; the flags are still written.
43_close_handling.md R205, R208, R210. -/
def Obligations.CloseIsNotEchoedTwice : Prop :=
  ∀ (rsv : BitVec 3) (mask : Bool) (len7 : BitVec 7) (b0 b1 : Byte) (body rest : Bytes)
    (code : Option (BitVec 16)) (reason : Option String) (s : State),
    s.buf = b0 :: b1 :: (body ++ rest) → body.length = len7.toNat → len7.toNat ≤ 125 →
    len7.toNat ≠ 1 → closeBodyFull body = .valid code reason → s.sentClose = true →
    exec (.close true rsv mask len7) s = .next { s with
      buf := rest, receivedClose := true, readyState := .closing, driving := false
      events := s.events ++ [.setReadyStateClosing, .setReceivedClose] ++ closeDone s }

/-- A CLOSE with no body, sentClose reading false, is echoed with ECHO_NO_CODE, or with any two bytes
where it is not given. 43_close_handling.md R209 to R211. -/
def Obligations.CloseWithoutCodeEchoesEchoNoCode : Prop :=
  ∀ (rsv : BitVec 3) (mask : Bool) (b0 b1 : Byte) (rest : Bytes) (s : State),
    s.buf = b0 :: b1 :: rest → s.sentClose = false →
    ∃ (l : List Nat) (n : Nat) (k0 k1 k2 k3 e1 e0 : Byte),
      (∀ u, u ∈ l ↔ u ∈ s.inflight ∨ u = s.nextTag) ∧
      (∀ e, s.cfg.echoNoCode = some e → e1 = e.extractLsb' 8 8 ∧ e0 = e.extractLsb' 0 8) ∧
      exec (.close true rsv mask 0) s = .next { s with
        buf := rest, inflight := l, nextTag := s.nextTag + 1, receivedClose := true
        readyState := .closing, driving := false, draws := n
        events := s.events ++ [.txWrite s.nextTag [0x88, 0x82, k0, k1, k2, k3, e1 ^^^ k0, e0 ^^^ k1],
          .setReadyStateClosing, .setReceivedClose] ++ closeDone s }

/-- A frame received with MASK = 1 is misparsed: its key is taken as payload and its last four payload
bytes stay in the buffer. 70_reset_and_hazards.md R271, 30_encoding.md R73, 43_close_handling.md
R205, R206. -/
def Obligations.MaskedFrameIsMisparsed : Prop :=
  (∀ p ∈ dataFrames ++ reservedFrames ++ pingPongFrames,
    ∀ (fin : Bool) (rsv : BitVec 3) (len7 : BitVec 7) (b0 b1 k0 k1 k2 k3 : Byte)
      (ext m rest : Bytes) (s : State),
    (fin = true ∨ p ∈ dataFrames) → (p ∈ pingPongFrames → len7.toNat ≤ 125) →
    frameLength len7 ext m.length →
    s.buf = b0 :: b1 :: (ext ++ ([k0, k1, k2, k3] ++ m) ++ rest) →
    exec (p.2 fin rsv true len7) s =
      .next (dispatched p.1 (([k0, k1, k2, k3] ++ m).take m.length)
        (([k0, k1, k2, k3] ++ m).drop m.length ++ rest) s)) ∧
  (∀ (rsv : BitVec 3) (len7 : BitVec 7) (b0 b1 k0 k1 k2 k3 : Byte) (m rest : Bytes) (s : State),
    m.length = len7.toNat → len7.toNat ≤ 125 → len7.toNat ≠ 1 →
    s.buf = b0 :: b1 :: ([k0, k1, k2, k3] ++ m ++ rest) →
    (∀ code reason, closeBodyFull (([k0, k1, k2, k3] ++ m).take m.length) = .valid code reason →
      ∃ t, exec (.close true rsv true len7) s = .next t ∧
        t.buf = ([k0, k1, k2, k3] ++ m).drop m.length ++ rest ∧ t.failed = s.failed ∧
        t.receivedClose = true ∧ t.readyState = .closing) ∧
    (closeBodyFull (([k0, k1, k2, k3] ++ m).take m.length) = .invalid →
      ∃ t reason, exec (.close true rsv true len7) s = .next t ∧ t.failed = true ∧
        t.events = s.events ++ [.fail .closeBodyInvalid reason]))

/-- A step takes the oldest command at the port and runs it on the state without it. 00_scope.md R3,
20_memory.md R56, R61. -/
def Obligations.StepRunsTheDecodedCommand : Prop :=
  ∀ (s : State) (r : Request) (rest : List Request) (i : Instr), s.driving = false →
    s.port = r :: rest → decodeRequest r = .ok i → step s = exec i { s with port := rest }

/-- A pass of the drive loop at AwaitingHeader runs the whole frame whose header stands in the buffer
(the model's grouping, logs 1 and 15). 41_decoder_ingest.md R131, R133, 30_encoding.md R78. -/
def Obligations.DriveRunsTheDecodedFrame : Prop :=
  ∀ (s : State) (b0 b1 : Byte) (rest : Bytes), s.pstate = .awaitingHeader → s.buf = b0 :: b1 :: rest →
    drivePass s = exec (decodeHeader b0 b1) s ∧
    (s.driving = true → step s = exec (decodeHeader b0 b1) s) ∧
    (s.driving = true → ∀ fuel, drive (fuel + 1) s =
      match exec (decodeHeader b0 b1) s with
      | .next t => drive fuel t
      | .fault f => .fault f
      | .refused r => .refused r)

/-- Between transactions with no command waiting, the state is unchanged. 60_exceptions.md R246. -/
def Obligations.IdleBlockHoldsItsState : Prop :=
  ∀ s : State, s.driving = false → s.port = [] → step s = .next s

/-- Every step keeps the invariant of a decoder instance. 10_state.md R23, R25, R27, R28,
41_decoder_ingest.md R133 to R145, 60_exceptions.md R233. -/
def Obligations.StepKeepsTheInvariant : Prop :=
  ∀ s t : State, s.Inv → step s = .next t → t.Inv

/-- The state after construction meets the invariant. 70_reset_and_hazards.md R260. -/
def Obligations.ResetMeetsTheInvariant : Prop :=
  State.reset.Inv

/-- At most one Fail event over the life of an instance. R234. -/
def Obligations.FailIsSignalledOnce : Prop :=
  (∀ s t : State, s.Inv → s.failCount = (if s.failed then 1 else 0) → step s = .next t →
    t.failCount = (if t.failed then 1 else 0)) ∧
  (∀ (cfg : Params) (port : List Request) (sc rc : Bool) (rs : ReadyState) (n : Nat) (t : State),
    Sys2Proof.core.run n { State.reset with
      cfg := cfg, port := port, sentClose := sc, receivedClose := rc, readyState := rs } = .next t →
    t.failCount ≤ 1)

/-- No step clears the failure latch. 10_state.md R26 (Nothing clears it for the life of the instance),
60_exceptions.md R237. -/
def Obligations.FailureLatchIsNeverCleared : Prop :=
  ∀ s t : State, s.failed = true → step s = .next t → t.failed = true

/-- No CLOSE is ever dispatched and no PING or PONG with more than 125 bytes. 43_close_handling.md R207,
41_decoder_ingest.md R135, R145. -/
def Obligations.EveryDispatchPassedItsChecks : Prop :=
  ∀ s t : State, s.Inv → (∀ e ∈ s.events, e.dispatchAllowed = true) → step s = .next t →
    ∀ e ∈ t.events, e.dispatchAllowed = true

/-- The echo writes carry the tags 0, 1, 2, ... in order. 10_state.md R27. -/
def Obligations.WriteTagsAreHandedOutInOrder : Prop :=
  ∀ s t : State, writeTags s.events = List.range s.nextTag → step s = .next t →
    writeTags t.events = List.range t.nextTag

/-- A step only appends to the event list. 20_memory.md R57, R60, R61. -/
def Obligations.EventsOnlyGrow : Prop :=
  ∀ s t : State, step s = .next t → s.events <+: t.events

/-- No step changes the configuration. 70_reset_and_hazards.md R260, 10_state.md R34. -/
def Obligations.ConfigurationIsFixed : Prop :=
  ∀ s t : State, step s = .next t → t.cfg = s.cfg

/-- The block never writes false to a connection flag, nor a readyState other than CLOSING. 10_state.md
R29, R30. -/
def Obligations.ConnectionFlagsAreNeverCleared : Prop :=
  ∀ (i : Instr) (s t : State), exec i s = .next t →
    (s.receivedClose = true → t.receivedClose = true) ∧
    (t.readyState = s.readyState ∨ t.readyState = .closing) ∧
    ((∀ chunk sc, i ≠ .ingest chunk sc) → s.sentClose = true → t.sentClose = true) ∧
    (∀ chunk sc, i = .ingest chunk sc → s.failed = false → t.sentClose = sc)

/-- From the invariant, a step is stuck only on an INGEST that would overflow BUF_CAP.
41_decoder_ingest.md R146, 10_state.md R25. -/
def Obligations.StepIsStuckOnlyOverTheCap : Prop :=
  ∀ (s : State) (f : Fault), s.Inv → step s = .fault f →
    f = .bufferOverflow ∧ s.driving = false ∧ s.failed = false ∧
      ∃ r rest chunk sc cap, s.port = r :: rest ∧ decodeRequest r = .ok (.ingest chunk sc) ∧
        s.cfg.bufCap = some cap ∧ cap < s.buf.length + chunk.length

/-- The state after construction has the values of R260. 70_reset_and_hazards.md R260, 10_state.md R41,
00_scope.md R8. -/
def Obligations.ResetState : Prop :=
  State.reset.pstate = .awaitingHeader ∧ State.reset.buf = [] ∧ State.reset.fFin = none ∧
  State.reset.fOp = none ∧ State.reset.fLen = none ∧ State.reset.failed = false ∧
  State.reset.inflight = [] ∧ State.reset.nextTag = 0 ∧ State.reset.cfg.bufCap = none ∧
  parserStateCode State.reset.pstate = 0

/-- ENCODE shares no state with the decoder: it may fall between any two transactions and changes
nothing they emit. R67. -/
def Obligations.EncodeSharesNoStateWithTheDecoder : Prop :=
  (∀ (op : Opcode) (payload : Option Bytes) (s t : State), exec (.encode op payload) s = .next t →
    ∃ frame, t = { s with
      events := s.events ++ [.encOut frame], encodeDraws := t.encodeDraws }) ∧
  (∀ (i : Instr) (s : State) (events : List Event) (n : Nat), (∀ op payload, i ≠ .encode op payload) →
    match exec i s with
    | .next t => t.encodeDraws = s.encodeDraws ∧ ∃ new, t.events = s.events ++ new ∧
        exec i { s with events := events, encodeDraws := n } =
          .next { t with events := events ++ new, encodeDraws := n }
    | .fault f => exec i { s with events := events, encodeDraws := n } = .fault f
    | .refused r => exec i { s with events := events, encodeDraws := n } = .refused r)
end

