-- ==== Sys2Proof/Laws/State.lean ====
section
/-! SUPPORT. For each named update of the state, one lemma per field. -/

namespace Sys2Proof.Machine

variable (s : State)

@[simp] theorem State.consume_pstate (n : Nat) : (s.consume n).pstate = s.pstate := rfl
@[simp] theorem State.consume_buf (n : Nat) : (s.consume n).buf = s.buf.drop n := rfl
@[simp] theorem State.consume_fFin (n : Nat) : (s.consume n).fFin = s.fFin := rfl
@[simp] theorem State.consume_fOp (n : Nat) : (s.consume n).fOp = s.fOp := rfl
@[simp] theorem State.consume_fLen (n : Nat) : (s.consume n).fLen = s.fLen := rfl
@[simp] theorem State.consume_failed (n : Nat) : (s.consume n).failed = s.failed := rfl
@[simp] theorem State.consume_inflight (n : Nat) : (s.consume n).inflight = s.inflight := rfl
@[simp] theorem State.consume_nextTag (n : Nat) : (s.consume n).nextTag = s.nextTag := rfl
@[simp] theorem State.consume_sentClose (n : Nat) : (s.consume n).sentClose = s.sentClose := rfl
@[simp] theorem State.consume_receivedClose (n : Nat) : (s.consume n).receivedClose = s.receivedClose := rfl
@[simp] theorem State.consume_readyState (n : Nat) : (s.consume n).readyState = s.readyState := rfl
@[simp] theorem State.consume_cfg (n : Nat) : (s.consume n).cfg = s.cfg := rfl
@[simp] theorem State.consume_events (n : Nat) : (s.consume n).events = s.events := rfl
@[simp] theorem State.consume_port (n : Nat) : (s.consume n).port = s.port := rfl
@[simp] theorem State.consume_driving (n : Nat) : (s.consume n).driving = s.driving := rfl
@[simp] theorem State.consume_draws (n : Nat) : (s.consume n).draws = s.draws := rfl
@[simp] theorem State.consume_encodeDraws (n : Nat) : (s.consume n).encodeDraws = s.encodeDraws := rfl

@[simp] theorem State.append_pstate (chunk : Bytes) : (s.append chunk).pstate = s.pstate := rfl
@[simp] theorem State.append_buf (chunk : Bytes) : (s.append chunk).buf = s.buf ++ chunk := rfl
@[simp] theorem State.append_fFin (chunk : Bytes) : (s.append chunk).fFin = s.fFin := rfl
@[simp] theorem State.append_fOp (chunk : Bytes) : (s.append chunk).fOp = s.fOp := rfl
@[simp] theorem State.append_fLen (chunk : Bytes) : (s.append chunk).fLen = s.fLen := rfl
@[simp] theorem State.append_failed (chunk : Bytes) : (s.append chunk).failed = s.failed := rfl
@[simp] theorem State.append_inflight (chunk : Bytes) : (s.append chunk).inflight = s.inflight := rfl
@[simp] theorem State.append_nextTag (chunk : Bytes) : (s.append chunk).nextTag = s.nextTag := rfl
@[simp] theorem State.append_sentClose (chunk : Bytes) : (s.append chunk).sentClose = s.sentClose := rfl
@[simp] theorem State.append_receivedClose (chunk : Bytes) : (s.append chunk).receivedClose = s.receivedClose := rfl
@[simp] theorem State.append_readyState (chunk : Bytes) : (s.append chunk).readyState = s.readyState := rfl
@[simp] theorem State.append_cfg (chunk : Bytes) : (s.append chunk).cfg = s.cfg := rfl
@[simp] theorem State.append_events (chunk : Bytes) : (s.append chunk).events = s.events := rfl
@[simp] theorem State.append_port (chunk : Bytes) : (s.append chunk).port = s.port := rfl
@[simp] theorem State.append_driving (chunk : Bytes) : (s.append chunk).driving = s.driving := rfl
@[simp] theorem State.append_draws (chunk : Bytes) : (s.append chunk).draws = s.draws := rfl
@[simp] theorem State.append_encodeDraws (chunk : Bytes) : (s.append chunk).encodeDraws = s.encodeDraws := rfl

@[simp] theorem State.emit_pstate (e : Event) : (s.emit e).pstate = s.pstate := rfl
@[simp] theorem State.emit_buf (e : Event) : (s.emit e).buf = s.buf := rfl
@[simp] theorem State.emit_fFin (e : Event) : (s.emit e).fFin = s.fFin := rfl
@[simp] theorem State.emit_fOp (e : Event) : (s.emit e).fOp = s.fOp := rfl
@[simp] theorem State.emit_fLen (e : Event) : (s.emit e).fLen = s.fLen := rfl
@[simp] theorem State.emit_failed (e : Event) : (s.emit e).failed = s.failed := rfl
@[simp] theorem State.emit_inflight (e : Event) : (s.emit e).inflight = s.inflight := rfl
@[simp] theorem State.emit_nextTag (e : Event) : (s.emit e).nextTag = s.nextTag := rfl
@[simp] theorem State.emit_sentClose (e : Event) : (s.emit e).sentClose = s.sentClose := rfl
@[simp] theorem State.emit_receivedClose (e : Event) : (s.emit e).receivedClose = s.receivedClose := rfl
@[simp] theorem State.emit_readyState (e : Event) : (s.emit e).readyState = s.readyState := rfl
@[simp] theorem State.emit_cfg (e : Event) : (s.emit e).cfg = s.cfg := rfl
@[simp] theorem State.emit_events (e : Event) : (s.emit e).events = s.events ++ [e] := rfl
@[simp] theorem State.emit_port (e : Event) : (s.emit e).port = s.port := rfl
@[simp] theorem State.emit_driving (e : Event) : (s.emit e).driving = s.driving := rfl
@[simp] theorem State.emit_draws (e : Event) : (s.emit e).draws = s.draws := rfl
@[simp] theorem State.emit_encodeDraws (e : Event) : (s.emit e).encodeDraws = s.encodeDraws := rfl

@[simp] theorem State.drawn_pstate : (s.drawn).pstate = s.pstate := rfl
@[simp] theorem State.drawn_buf : (s.drawn).buf = s.buf := rfl
@[simp] theorem State.drawn_fFin : (s.drawn).fFin = s.fFin := rfl
@[simp] theorem State.drawn_fOp : (s.drawn).fOp = s.fOp := rfl
@[simp] theorem State.drawn_fLen : (s.drawn).fLen = s.fLen := rfl
@[simp] theorem State.drawn_failed : (s.drawn).failed = s.failed := rfl
@[simp] theorem State.drawn_inflight : (s.drawn).inflight = s.inflight := rfl
@[simp] theorem State.drawn_nextTag : (s.drawn).nextTag = s.nextTag := rfl
@[simp] theorem State.drawn_sentClose : (s.drawn).sentClose = s.sentClose := rfl
@[simp] theorem State.drawn_receivedClose : (s.drawn).receivedClose = s.receivedClose := rfl
@[simp] theorem State.drawn_readyState : (s.drawn).readyState = s.readyState := rfl
@[simp] theorem State.drawn_cfg : (s.drawn).cfg = s.cfg := rfl
@[simp] theorem State.drawn_events : (s.drawn).events = s.events := rfl
@[simp] theorem State.drawn_port : (s.drawn).port = s.port := rfl
@[simp] theorem State.drawn_driving : (s.drawn).driving = s.driving := rfl
@[simp] theorem State.drawn_draws : (s.drawn).draws = s.draws + 1 := rfl
@[simp] theorem State.drawn_encodeDraws : (s.drawn).encodeDraws = s.encodeDraws := rfl

@[simp] theorem State.encodeDrawn_pstate : (s.encodeDrawn).pstate = s.pstate := rfl
@[simp] theorem State.encodeDrawn_buf : (s.encodeDrawn).buf = s.buf := rfl
@[simp] theorem State.encodeDrawn_fFin : (s.encodeDrawn).fFin = s.fFin := rfl
@[simp] theorem State.encodeDrawn_fOp : (s.encodeDrawn).fOp = s.fOp := rfl
@[simp] theorem State.encodeDrawn_fLen : (s.encodeDrawn).fLen = s.fLen := rfl
@[simp] theorem State.encodeDrawn_failed : (s.encodeDrawn).failed = s.failed := rfl
@[simp] theorem State.encodeDrawn_inflight : (s.encodeDrawn).inflight = s.inflight := rfl
@[simp] theorem State.encodeDrawn_nextTag : (s.encodeDrawn).nextTag = s.nextTag := rfl
@[simp] theorem State.encodeDrawn_sentClose : (s.encodeDrawn).sentClose = s.sentClose := rfl
@[simp] theorem State.encodeDrawn_receivedClose : (s.encodeDrawn).receivedClose = s.receivedClose := rfl
@[simp] theorem State.encodeDrawn_readyState : (s.encodeDrawn).readyState = s.readyState := rfl
@[simp] theorem State.encodeDrawn_cfg : (s.encodeDrawn).cfg = s.cfg := rfl
@[simp] theorem State.encodeDrawn_events : (s.encodeDrawn).events = s.events := rfl
@[simp] theorem State.encodeDrawn_port : (s.encodeDrawn).port = s.port := rfl
@[simp] theorem State.encodeDrawn_driving : (s.encodeDrawn).driving = s.driving := rfl
@[simp] theorem State.encodeDrawn_draws : (s.encodeDrawn).draws = s.draws := rfl
@[simp] theorem State.encodeDrawn_encodeDraws : (s.encodeDrawn).encodeDraws = s.encodeDraws + 1 := rfl

@[simp] theorem State.stopDrive_pstate : (s.stopDrive).pstate = s.pstate := rfl
@[simp] theorem State.stopDrive_buf : (s.stopDrive).buf = s.buf := rfl
@[simp] theorem State.stopDrive_fFin : (s.stopDrive).fFin = s.fFin := rfl
@[simp] theorem State.stopDrive_fOp : (s.stopDrive).fOp = s.fOp := rfl
@[simp] theorem State.stopDrive_fLen : (s.stopDrive).fLen = s.fLen := rfl
@[simp] theorem State.stopDrive_failed : (s.stopDrive).failed = s.failed := rfl
@[simp] theorem State.stopDrive_inflight : (s.stopDrive).inflight = s.inflight := rfl
@[simp] theorem State.stopDrive_nextTag : (s.stopDrive).nextTag = s.nextTag := rfl
@[simp] theorem State.stopDrive_sentClose : (s.stopDrive).sentClose = s.sentClose := rfl
@[simp] theorem State.stopDrive_receivedClose : (s.stopDrive).receivedClose = s.receivedClose := rfl
@[simp] theorem State.stopDrive_readyState : (s.stopDrive).readyState = s.readyState := rfl
@[simp] theorem State.stopDrive_cfg : (s.stopDrive).cfg = s.cfg := rfl
@[simp] theorem State.stopDrive_events : (s.stopDrive).events = s.events := rfl
@[simp] theorem State.stopDrive_port : (s.stopDrive).port = s.port := rfl
@[simp] theorem State.stopDrive_driving : (s.stopDrive).driving = false := rfl
@[simp] theorem State.stopDrive_draws : (s.stopDrive).draws = s.draws := rfl
@[simp] theorem State.stopDrive_encodeDraws : (s.stopDrive).encodeDraws = s.encodeDraws := rfl

@[simp] theorem State.clearFrame_pstate : (s.clearFrame).pstate = s.pstate := rfl
@[simp] theorem State.clearFrame_buf : (s.clearFrame).buf = s.buf := rfl
@[simp] theorem State.clearFrame_fFin : (s.clearFrame).fFin = none := rfl
@[simp] theorem State.clearFrame_fOp : (s.clearFrame).fOp = none := rfl
@[simp] theorem State.clearFrame_fLen : (s.clearFrame).fLen = none := rfl
@[simp] theorem State.clearFrame_failed : (s.clearFrame).failed = s.failed := rfl
@[simp] theorem State.clearFrame_inflight : (s.clearFrame).inflight = s.inflight := rfl
@[simp] theorem State.clearFrame_nextTag : (s.clearFrame).nextTag = s.nextTag := rfl
@[simp] theorem State.clearFrame_sentClose : (s.clearFrame).sentClose = s.sentClose := rfl
@[simp] theorem State.clearFrame_receivedClose : (s.clearFrame).receivedClose = s.receivedClose := rfl
@[simp] theorem State.clearFrame_readyState : (s.clearFrame).readyState = s.readyState := rfl
@[simp] theorem State.clearFrame_cfg : (s.clearFrame).cfg = s.cfg := rfl
@[simp] theorem State.clearFrame_events : (s.clearFrame).events = s.events := rfl
@[simp] theorem State.clearFrame_port : (s.clearFrame).port = s.port := rfl
@[simp] theorem State.clearFrame_driving : (s.clearFrame).driving = s.driving := rfl
@[simp] theorem State.clearFrame_draws : (s.clearFrame).draws = s.draws := rfl
@[simp] theorem State.clearFrame_encodeDraws : (s.clearFrame).encodeDraws = s.encodeDraws := rfl

@[simp] theorem State.writeSentClose_pstate : (s.writeSentClose).pstate = s.pstate := rfl
@[simp] theorem State.writeSentClose_buf : (s.writeSentClose).buf = s.buf := rfl
@[simp] theorem State.writeSentClose_fFin : (s.writeSentClose).fFin = s.fFin := rfl
@[simp] theorem State.writeSentClose_fOp : (s.writeSentClose).fOp = s.fOp := rfl
@[simp] theorem State.writeSentClose_fLen : (s.writeSentClose).fLen = s.fLen := rfl
@[simp] theorem State.writeSentClose_failed : (s.writeSentClose).failed = s.failed := rfl
@[simp] theorem State.writeSentClose_inflight : (s.writeSentClose).inflight = s.inflight := rfl
@[simp] theorem State.writeSentClose_nextTag : (s.writeSentClose).nextTag = s.nextTag := rfl
@[simp] theorem State.writeSentClose_sentClose : (s.writeSentClose).sentClose = true := rfl
@[simp] theorem State.writeSentClose_receivedClose : (s.writeSentClose).receivedClose = s.receivedClose := rfl
@[simp] theorem State.writeSentClose_readyState : (s.writeSentClose).readyState = s.readyState := rfl
@[simp] theorem State.writeSentClose_cfg : (s.writeSentClose).cfg = s.cfg := rfl
@[simp] theorem State.writeSentClose_events : (s.writeSentClose).events = s.events ++ [.setSentClose] := rfl
@[simp] theorem State.writeSentClose_port : (s.writeSentClose).port = s.port := rfl
@[simp] theorem State.writeSentClose_driving : (s.writeSentClose).driving = s.driving := rfl
@[simp] theorem State.writeSentClose_draws : (s.writeSentClose).draws = s.draws := rfl
@[simp] theorem State.writeSentClose_encodeDraws : (s.writeSentClose).encodeDraws = s.encodeDraws := rfl

@[simp] theorem State.writeReceivedClose_pstate : (s.writeReceivedClose).pstate = s.pstate := rfl
@[simp] theorem State.writeReceivedClose_buf : (s.writeReceivedClose).buf = s.buf := rfl
@[simp] theorem State.writeReceivedClose_fFin : (s.writeReceivedClose).fFin = s.fFin := rfl
@[simp] theorem State.writeReceivedClose_fOp : (s.writeReceivedClose).fOp = s.fOp := rfl
@[simp] theorem State.writeReceivedClose_fLen : (s.writeReceivedClose).fLen = s.fLen := rfl
@[simp] theorem State.writeReceivedClose_failed : (s.writeReceivedClose).failed = s.failed := rfl
@[simp] theorem State.writeReceivedClose_inflight : (s.writeReceivedClose).inflight = s.inflight := rfl
@[simp] theorem State.writeReceivedClose_nextTag : (s.writeReceivedClose).nextTag = s.nextTag := rfl
@[simp] theorem State.writeReceivedClose_sentClose : (s.writeReceivedClose).sentClose = s.sentClose := rfl
@[simp] theorem State.writeReceivedClose_receivedClose : (s.writeReceivedClose).receivedClose = true := rfl
@[simp] theorem State.writeReceivedClose_readyState : (s.writeReceivedClose).readyState = s.readyState := rfl
@[simp] theorem State.writeReceivedClose_cfg : (s.writeReceivedClose).cfg = s.cfg := rfl
@[simp] theorem State.writeReceivedClose_events : (s.writeReceivedClose).events = s.events ++ [.setReceivedClose] := rfl
@[simp] theorem State.writeReceivedClose_port : (s.writeReceivedClose).port = s.port := rfl
@[simp] theorem State.writeReceivedClose_driving : (s.writeReceivedClose).driving = s.driving := rfl
@[simp] theorem State.writeReceivedClose_draws : (s.writeReceivedClose).draws = s.draws := rfl
@[simp] theorem State.writeReceivedClose_encodeDraws : (s.writeReceivedClose).encodeDraws = s.encodeDraws := rfl

@[simp] theorem State.writeReadyStateClosing_pstate : (s.writeReadyStateClosing).pstate = s.pstate := rfl
@[simp] theorem State.writeReadyStateClosing_buf : (s.writeReadyStateClosing).buf = s.buf := rfl
@[simp] theorem State.writeReadyStateClosing_fFin : (s.writeReadyStateClosing).fFin = s.fFin := rfl
@[simp] theorem State.writeReadyStateClosing_fOp : (s.writeReadyStateClosing).fOp = s.fOp := rfl
@[simp] theorem State.writeReadyStateClosing_fLen : (s.writeReadyStateClosing).fLen = s.fLen := rfl
@[simp] theorem State.writeReadyStateClosing_failed : (s.writeReadyStateClosing).failed = s.failed := rfl
@[simp] theorem State.writeReadyStateClosing_inflight : (s.writeReadyStateClosing).inflight = s.inflight := rfl
@[simp] theorem State.writeReadyStateClosing_nextTag : (s.writeReadyStateClosing).nextTag = s.nextTag := rfl
@[simp] theorem State.writeReadyStateClosing_sentClose : (s.writeReadyStateClosing).sentClose = s.sentClose := rfl
@[simp] theorem State.writeReadyStateClosing_receivedClose : (s.writeReadyStateClosing).receivedClose = s.receivedClose := rfl
@[simp] theorem State.writeReadyStateClosing_readyState : (s.writeReadyStateClosing).readyState = .closing := rfl
@[simp] theorem State.writeReadyStateClosing_cfg : (s.writeReadyStateClosing).cfg = s.cfg := rfl
@[simp] theorem State.writeReadyStateClosing_events : (s.writeReadyStateClosing).events = s.events ++ [.setReadyStateClosing] := rfl
@[simp] theorem State.writeReadyStateClosing_port : (s.writeReadyStateClosing).port = s.port := rfl
@[simp] theorem State.writeReadyStateClosing_driving : (s.writeReadyStateClosing).driving = s.driving := rfl
@[simp] theorem State.writeReadyStateClosing_draws : (s.writeReadyStateClosing).draws = s.draws := rfl
@[simp] theorem State.writeReadyStateClosing_encodeDraws : (s.writeReadyStateClosing).encodeDraws = s.encodeDraws := rfl

@[simp] theorem State.putRequest_pstate (r : Request) : (s.putRequest r).pstate = s.pstate := rfl
@[simp] theorem State.putRequest_buf (r : Request) : (s.putRequest r).buf = s.buf := rfl
@[simp] theorem State.putRequest_fFin (r : Request) : (s.putRequest r).fFin = s.fFin := rfl
@[simp] theorem State.putRequest_fOp (r : Request) : (s.putRequest r).fOp = s.fOp := rfl
@[simp] theorem State.putRequest_fLen (r : Request) : (s.putRequest r).fLen = s.fLen := rfl
@[simp] theorem State.putRequest_failed (r : Request) : (s.putRequest r).failed = s.failed := rfl
@[simp] theorem State.putRequest_inflight (r : Request) : (s.putRequest r).inflight = s.inflight := rfl
@[simp] theorem State.putRequest_nextTag (r : Request) : (s.putRequest r).nextTag = s.nextTag := rfl
@[simp] theorem State.putRequest_sentClose (r : Request) : (s.putRequest r).sentClose = s.sentClose := rfl
@[simp] theorem State.putRequest_receivedClose (r : Request) : (s.putRequest r).receivedClose = s.receivedClose := rfl
@[simp] theorem State.putRequest_readyState (r : Request) : (s.putRequest r).readyState = s.readyState := rfl
@[simp] theorem State.putRequest_cfg (r : Request) : (s.putRequest r).cfg = s.cfg := rfl
@[simp] theorem State.putRequest_events (r : Request) : (s.putRequest r).events = s.events := rfl
@[simp] theorem State.putRequest_port (r : Request) : (s.putRequest r).port = r :: s.port := rfl
@[simp] theorem State.putRequest_driving (r : Request) : (s.putRequest r).driving = s.driving := rfl
@[simp] theorem State.putRequest_draws (r : Request) : (s.putRequest r).draws = s.draws := rfl
@[simp] theorem State.putRequest_encodeDraws (r : Request) : (s.putRequest r).encodeDraws = s.encodeDraws := rfl

@[simp] theorem raiseFail_pstate (c : FailCause) : (raiseFail c s).pstate = s.pstate := rfl
@[simp] theorem raiseFail_buf (c : FailCause) : (raiseFail c s).buf = s.buf := rfl
@[simp] theorem raiseFail_fFin (c : FailCause) : (raiseFail c s).fFin = s.fFin := rfl
@[simp] theorem raiseFail_fOp (c : FailCause) : (raiseFail c s).fOp = s.fOp := rfl
@[simp] theorem raiseFail_fLen (c : FailCause) : (raiseFail c s).fLen = s.fLen := rfl
@[simp] theorem raiseFail_failed (c : FailCause) : (raiseFail c s).failed = true := rfl
@[simp] theorem raiseFail_inflight (c : FailCause) : (raiseFail c s).inflight = s.inflight := rfl
@[simp] theorem raiseFail_nextTag (c : FailCause) : (raiseFail c s).nextTag = s.nextTag := rfl
@[simp] theorem raiseFail_sentClose (c : FailCause) : (raiseFail c s).sentClose = s.sentClose := rfl
@[simp] theorem raiseFail_receivedClose (c : FailCause) : (raiseFail c s).receivedClose = s.receivedClose := rfl
@[simp] theorem raiseFail_readyState (c : FailCause) : (raiseFail c s).readyState = s.readyState := rfl
@[simp] theorem raiseFail_cfg (c : FailCause) : (raiseFail c s).cfg = s.cfg := rfl
@[simp] theorem raiseFail_events (c : FailCause) : (raiseFail c s).events = s.events ++ [.fail c (Config.failReason s.draws)] := rfl
@[simp] theorem raiseFail_port (c : FailCause) : (raiseFail c s).port = s.port := rfl
@[simp] theorem raiseFail_driving (c : FailCause) : (raiseFail c s).driving = false := rfl
@[simp] theorem raiseFail_draws (c : FailCause) : (raiseFail c s).draws = s.draws + 1 := rfl
@[simp] theorem raiseFail_encodeDraws (c : FailCause) : (raiseFail c s).encodeDraws = s.encodeDraws := rfl

@[simp] theorem needMoreExit_pstate : (needMoreExit s).pstate = s.pstate := rfl
@[simp] theorem needMoreExit_buf : (needMoreExit s).buf = s.buf := rfl
@[simp] theorem needMoreExit_fFin : (needMoreExit s).fFin = s.fFin := rfl
@[simp] theorem needMoreExit_fOp : (needMoreExit s).fOp = s.fOp := rfl
@[simp] theorem needMoreExit_fLen : (needMoreExit s).fLen = s.fLen := rfl
@[simp] theorem needMoreExit_failed : (needMoreExit s).failed = s.failed := rfl
@[simp] theorem needMoreExit_inflight : (needMoreExit s).inflight = s.inflight := rfl
@[simp] theorem needMoreExit_nextTag : (needMoreExit s).nextTag = s.nextTag := rfl
@[simp] theorem needMoreExit_sentClose : (needMoreExit s).sentClose = s.sentClose := rfl
@[simp] theorem needMoreExit_receivedClose : (needMoreExit s).receivedClose = s.receivedClose := rfl
@[simp] theorem needMoreExit_readyState : (needMoreExit s).readyState = s.readyState := rfl
@[simp] theorem needMoreExit_cfg : (needMoreExit s).cfg = s.cfg := rfl
@[simp] theorem needMoreExit_events : (needMoreExit s).events = s.events ++ [.done] := rfl
@[simp] theorem needMoreExit_port : (needMoreExit s).port = s.port := rfl
@[simp] theorem needMoreExit_driving : (needMoreExit s).driving = false := rfl
@[simp] theorem needMoreExit_draws : (needMoreExit s).draws = s.draws := rfl
@[simp] theorem needMoreExit_encodeDraws : (needMoreExit s).encodeDraws = s.encodeDraws := rfl

@[simp] theorem acceptClose_pstate : (acceptClose s).pstate = s.pstate := rfl
@[simp] theorem acceptClose_buf : (acceptClose s).buf = s.buf := rfl
@[simp] theorem acceptClose_fFin : (acceptClose s).fFin = s.fFin := rfl
@[simp] theorem acceptClose_fOp : (acceptClose s).fOp = s.fOp := rfl
@[simp] theorem acceptClose_fLen : (acceptClose s).fLen = s.fLen := rfl
@[simp] theorem acceptClose_failed : (acceptClose s).failed = s.failed := rfl
@[simp] theorem acceptClose_inflight : (acceptClose s).inflight = s.inflight := rfl
@[simp] theorem acceptClose_nextTag : (acceptClose s).nextTag = s.nextTag := rfl
@[simp] theorem acceptClose_sentClose : (acceptClose s).sentClose = s.sentClose := rfl
@[simp] theorem acceptClose_receivedClose : (acceptClose s).receivedClose = true := rfl
@[simp] theorem acceptClose_readyState : (acceptClose s).readyState = .closing := rfl
@[simp] theorem acceptClose_cfg : (acceptClose s).cfg = s.cfg := rfl
@[simp] theorem acceptClose_events : (acceptClose s).events = s.events ++ [.setReadyStateClosing] ++ [.setReceivedClose] := rfl
@[simp] theorem acceptClose_port : (acceptClose s).port = s.port := rfl
@[simp] theorem acceptClose_driving : (acceptClose s).driving = s.driving := rfl
@[simp] theorem acceptClose_draws : (acceptClose s).draws = s.draws := rfl
@[simp] theorem acceptClose_encodeDraws : (acceptClose s).encodeDraws = s.encodeDraws := rfl

@[simp] theorem writeEcho_pstate (p : Bytes) : (writeEcho p s).pstate = s.pstate := rfl
@[simp] theorem writeEcho_buf (p : Bytes) : (writeEcho p s).buf = s.buf := rfl
@[simp] theorem writeEcho_fFin (p : Bytes) : (writeEcho p s).fFin = s.fFin := rfl
@[simp] theorem writeEcho_fOp (p : Bytes) : (writeEcho p s).fOp = s.fOp := rfl
@[simp] theorem writeEcho_fLen (p : Bytes) : (writeEcho p s).fLen = s.fLen := rfl
@[simp] theorem writeEcho_failed (p : Bytes) : (writeEcho p s).failed = s.failed := rfl
@[simp] theorem writeEcho_inflight (p : Bytes) : (writeEcho p s).inflight = insertTag s.nextTag s.inflight := rfl
@[simp] theorem writeEcho_nextTag (p : Bytes) : (writeEcho p s).nextTag = s.nextTag + 1 := rfl
@[simp] theorem writeEcho_sentClose (p : Bytes) : (writeEcho p s).sentClose = s.sentClose := rfl
@[simp] theorem writeEcho_receivedClose (p : Bytes) : (writeEcho p s).receivedClose = s.receivedClose := rfl
@[simp] theorem writeEcho_readyState (p : Bytes) : (writeEcho p s).readyState = s.readyState := rfl
@[simp] theorem writeEcho_cfg (p : Bytes) : (writeEcho p s).cfg = s.cfg := rfl
@[simp] theorem writeEcho_events (p : Bytes) : (writeEcho p s).events = s.events ++ [.txWrite s.nextTag (encodeFrame 0x8 p (Config.rng4 s.draws))] := rfl
@[simp] theorem writeEcho_port (p : Bytes) : (writeEcho p s).port = s.port := rfl
@[simp] theorem writeEcho_driving (p : Bytes) : (writeEcho p s).driving = s.driving := rfl
@[simp] theorem writeEcho_draws (p : Bytes) : (writeEcho p s).draws = s.draws + 1 := rfl
@[simp] theorem writeEcho_encodeDraws (p : Bytes) : (writeEcho p s).encodeDraws = s.encodeDraws := rfl

@[simp] theorem beginIngest_pstate (chunk : Bytes) (sc : Bool) : (beginIngest chunk sc s).pstate = s.pstate := rfl
@[simp] theorem beginIngest_buf (chunk : Bytes) (sc : Bool) : (beginIngest chunk sc s).buf = s.buf ++ chunk := rfl
@[simp] theorem beginIngest_fFin (chunk : Bytes) (sc : Bool) : (beginIngest chunk sc s).fFin = s.fFin := rfl
@[simp] theorem beginIngest_fOp (chunk : Bytes) (sc : Bool) : (beginIngest chunk sc s).fOp = s.fOp := rfl
@[simp] theorem beginIngest_fLen (chunk : Bytes) (sc : Bool) : (beginIngest chunk sc s).fLen = s.fLen := rfl
@[simp] theorem beginIngest_failed (chunk : Bytes) (sc : Bool) : (beginIngest chunk sc s).failed = s.failed := rfl
@[simp] theorem beginIngest_inflight (chunk : Bytes) (sc : Bool) : (beginIngest chunk sc s).inflight = s.inflight := rfl
@[simp] theorem beginIngest_nextTag (chunk : Bytes) (sc : Bool) : (beginIngest chunk sc s).nextTag = s.nextTag := rfl
@[simp] theorem beginIngest_sentClose (chunk : Bytes) (sc : Bool) : (beginIngest chunk sc s).sentClose = sc := rfl
@[simp] theorem beginIngest_receivedClose (chunk : Bytes) (sc : Bool) : (beginIngest chunk sc s).receivedClose = s.receivedClose := rfl
@[simp] theorem beginIngest_readyState (chunk : Bytes) (sc : Bool) : (beginIngest chunk sc s).readyState = s.readyState := rfl
@[simp] theorem beginIngest_cfg (chunk : Bytes) (sc : Bool) : (beginIngest chunk sc s).cfg = s.cfg := rfl
@[simp] theorem beginIngest_events (chunk : Bytes) (sc : Bool) : (beginIngest chunk sc s).events = s.events := rfl
@[simp] theorem beginIngest_port (chunk : Bytes) (sc : Bool) : (beginIngest chunk sc s).port = s.port := rfl
@[simp] theorem beginIngest_driving (chunk : Bytes) (sc : Bool) : (beginIngest chunk sc s).driving = true := rfl
@[simp] theorem beginIngest_draws (chunk : Bytes) (sc : Bool) : (beginIngest chunk sc s).draws = s.draws := rfl
@[simp] theorem beginIngest_encodeDraws (chunk : Bytes) (sc : Bool) : (beginIngest chunk sc s).encodeDraws = s.encodeDraws := rfl

/-- The close exit is the end of the loop after Done where it is signalled (R132 (c)). -/
theorem closeExit_eq :
    closeExit s = { s with events := s.events ++ closeDone s, driving := false } := by
  unfold closeExit closeDone State.emit State.stopDrive
  split <;> simp

@[simp] theorem closeExit_pstate : (closeExit s).pstate = s.pstate := by
  rw [closeExit_eq]
@[simp] theorem closeExit_buf : (closeExit s).buf = s.buf := by
  rw [closeExit_eq]
@[simp] theorem closeExit_fFin : (closeExit s).fFin = s.fFin := by
  rw [closeExit_eq]
@[simp] theorem closeExit_fOp : (closeExit s).fOp = s.fOp := by
  rw [closeExit_eq]
@[simp] theorem closeExit_fLen : (closeExit s).fLen = s.fLen := by
  rw [closeExit_eq]
@[simp] theorem closeExit_failed : (closeExit s).failed = s.failed := by
  rw [closeExit_eq]
@[simp] theorem closeExit_inflight : (closeExit s).inflight = s.inflight := by
  rw [closeExit_eq]
@[simp] theorem closeExit_nextTag : (closeExit s).nextTag = s.nextTag := by
  rw [closeExit_eq]
@[simp] theorem closeExit_sentClose : (closeExit s).sentClose = s.sentClose := by
  rw [closeExit_eq]
@[simp] theorem closeExit_receivedClose : (closeExit s).receivedClose = s.receivedClose := by
  rw [closeExit_eq]
@[simp] theorem closeExit_readyState : (closeExit s).readyState = s.readyState := by
  rw [closeExit_eq]
@[simp] theorem closeExit_cfg : (closeExit s).cfg = s.cfg := by
  rw [closeExit_eq]
@[simp] theorem closeExit_events : (closeExit s).events = s.events ++ closeDone s := by
  rw [closeExit_eq]
@[simp] theorem closeExit_port : (closeExit s).port = s.port := by
  rw [closeExit_eq]
@[simp] theorem closeExit_driving : (closeExit s).driving = false := by
  rw [closeExit_eq]
@[simp] theorem closeExit_draws : (closeExit s).draws = s.draws := by
  rw [closeExit_eq]
@[simp] theorem closeExit_encodeDraws : (closeExit s).encodeDraws = s.encodeDraws := by
  rw [closeExit_eq]

@[simp] theorem enterFrame_buf (op : Opcode) (fin : Bool) (len7 : BitVec 7) : (enterFrame op fin len7 s).buf = s.buf.drop 2 := by
  unfold enterFrame; split <;> (try split) <;> rfl
@[simp] theorem enterFrame_fFin (op : Opcode) (fin : Bool) (len7 : BitVec 7) : (enterFrame op fin len7 s).fFin = some fin := by
  unfold enterFrame; split <;> (try split) <;> rfl
@[simp] theorem enterFrame_fOp (op : Opcode) (fin : Bool) (len7 : BitVec 7) : (enterFrame op fin len7 s).fOp = some op := by
  unfold enterFrame; split <;> (try split) <;> rfl
@[simp] theorem enterFrame_failed (op : Opcode) (fin : Bool) (len7 : BitVec 7) : (enterFrame op fin len7 s).failed = s.failed := by
  unfold enterFrame; split <;> (try split) <;> rfl
@[simp] theorem enterFrame_inflight (op : Opcode) (fin : Bool) (len7 : BitVec 7) : (enterFrame op fin len7 s).inflight = s.inflight := by
  unfold enterFrame; split <;> (try split) <;> rfl
@[simp] theorem enterFrame_nextTag (op : Opcode) (fin : Bool) (len7 : BitVec 7) : (enterFrame op fin len7 s).nextTag = s.nextTag := by
  unfold enterFrame; split <;> (try split) <;> rfl
@[simp] theorem enterFrame_sentClose (op : Opcode) (fin : Bool) (len7 : BitVec 7) : (enterFrame op fin len7 s).sentClose = s.sentClose := by
  unfold enterFrame; split <;> (try split) <;> rfl
@[simp] theorem enterFrame_receivedClose (op : Opcode) (fin : Bool) (len7 : BitVec 7) : (enterFrame op fin len7 s).receivedClose = s.receivedClose := by
  unfold enterFrame; split <;> (try split) <;> rfl
@[simp] theorem enterFrame_readyState (op : Opcode) (fin : Bool) (len7 : BitVec 7) : (enterFrame op fin len7 s).readyState = s.readyState := by
  unfold enterFrame; split <;> (try split) <;> rfl
@[simp] theorem enterFrame_cfg (op : Opcode) (fin : Bool) (len7 : BitVec 7) : (enterFrame op fin len7 s).cfg = s.cfg := by
  unfold enterFrame; split <;> (try split) <;> rfl
@[simp] theorem enterFrame_events (op : Opcode) (fin : Bool) (len7 : BitVec 7) : (enterFrame op fin len7 s).events = s.events := by
  unfold enterFrame; split <;> (try split) <;> rfl
@[simp] theorem enterFrame_port (op : Opcode) (fin : Bool) (len7 : BitVec 7) : (enterFrame op fin len7 s).port = s.port := by
  unfold enterFrame; split <;> (try split) <;> rfl
@[simp] theorem enterFrame_driving (op : Opcode) (fin : Bool) (len7 : BitVec 7) : (enterFrame op fin len7 s).driving = s.driving := by
  unfold enterFrame; split <;> (try split) <;> rfl
@[simp] theorem enterFrame_draws (op : Opcode) (fin : Bool) (len7 : BitVec 7) : (enterFrame op fin len7 s).draws = s.draws := by
  unfold enterFrame; split <;> (try split) <;> rfl
@[simp] theorem enterFrame_encodeDraws (op : Opcode) (fin : Bool) (len7 : BitVec 7) : (enterFrame op fin len7 s).encodeDraws = s.encodeDraws := by
  unfold enterFrame; split <;> (try split) <;> rfl

@[simp] theorem echo_pstate (code : Option (BitVec 16)) : (echo code s).pstate = s.pstate := by
  unfold echo; split <;> (try split) <;> rfl
@[simp] theorem echo_buf (code : Option (BitVec 16)) : (echo code s).buf = s.buf := by
  unfold echo; split <;> (try split) <;> rfl
@[simp] theorem echo_fFin (code : Option (BitVec 16)) : (echo code s).fFin = s.fFin := by
  unfold echo; split <;> (try split) <;> rfl
@[simp] theorem echo_fOp (code : Option (BitVec 16)) : (echo code s).fOp = s.fOp := by
  unfold echo; split <;> (try split) <;> rfl
@[simp] theorem echo_fLen (code : Option (BitVec 16)) : (echo code s).fLen = s.fLen := by
  unfold echo; split <;> (try split) <;> rfl
@[simp] theorem echo_failed (code : Option (BitVec 16)) : (echo code s).failed = s.failed := by
  unfold echo; split <;> (try split) <;> rfl
@[simp] theorem echo_inflight (code : Option (BitVec 16)) : (echo code s).inflight = insertTag s.nextTag s.inflight := by
  unfold echo; split <;> (try split) <;> rfl
@[simp] theorem echo_nextTag (code : Option (BitVec 16)) : (echo code s).nextTag = s.nextTag + 1 := by
  unfold echo; split <;> (try split) <;> rfl
@[simp] theorem echo_sentClose (code : Option (BitVec 16)) : (echo code s).sentClose = s.sentClose := by
  unfold echo; split <;> (try split) <;> rfl
@[simp] theorem echo_receivedClose (code : Option (BitVec 16)) : (echo code s).receivedClose = s.receivedClose := by
  unfold echo; split <;> (try split) <;> rfl
@[simp] theorem echo_readyState (code : Option (BitVec 16)) : (echo code s).readyState = s.readyState := by
  unfold echo; split <;> (try split) <;> rfl
@[simp] theorem echo_cfg (code : Option (BitVec 16)) : (echo code s).cfg = s.cfg := by
  unfold echo; split <;> (try split) <;> rfl
@[simp] theorem echo_port (code : Option (BitVec 16)) : (echo code s).port = s.port := by
  unfold echo; split <;> (try split) <;> rfl
@[simp] theorem echo_driving (code : Option (BitVec 16)) : (echo code s).driving = s.driving := by
  unfold echo; split <;> (try split) <;> rfl
@[simp] theorem echo_encodeDraws (code : Option (BitVec 16)) : (echo code s).encodeDraws = s.encodeDraws := by
  unfold echo; split <;> (try split) <;> rfl

end Sys2Proof.Machine
end

