-- ==== Sys2Proof/Laws/Ops.lean ====
section
/-! SUPPORT. What the shared operations do: the buffer, the tag set, the failure sequence and the settling
of a parser step. -/

namespace Sys2Proof.Machine

/-- Reading does not go past the buffer's end, so appended bytes are not seen by an earlier read. -/
theorem memRead_append (off n : Nat) (chunk : Bytes) (s : State) (h : off + n ≤ s.count) :
    (s.append chunk).memRead off n = s.memRead off n := by
  simp only [State.count] at h
  have h1 : off ≤ s.buf.length := by omega
  have h2 : n ≤ (s.buf.drop off).length := by simp; omega
  simp [State.memRead, List.drop_append_of_le_length h1, List.take_append_of_le_length h2]

/-- Consuming leaves the bytes after the first n, and then the appended ones. -/
theorem consume_append (n : Nat) (chunk : Bytes) (s : State) (h : n ≤ s.count) :
    (s.append chunk).consume n = (s.consume n).append chunk := by
  simp only [State.count] at h
  simp [State.consume, State.append, List.drop_append_of_le_length h]

theorem mem_insertTag (tag u : Nat) (l : List Nat) : u ∈ insertTag tag l ↔ u ∈ l ∨ u = tag := by
  induction l with
  | nil => simp [insertTag]
  | cons t ts ih =>
    unfold insertTag
    split
    · simp [or_comm]
    · split
      · next h => subst h; simp; intro h; simp [h]
      · simp [ih]; tauto

theorem mem_removeTag (tag u : Nat) (l : List Nat) : u ∈ removeTag tag l ↔ u ∈ l ∧ u ≠ tag := by
  induction l with
  | nil => simp [removeTag]
  | cons t ts ih =>
    unfold removeTag
    split
    · next h => subst h; simp [ih]; intro h1 h2; exact absurd h2 h1
    · next h => simp [ih]; constructor
                · rintro (rfl | h1)
                  · exact ⟨.inl rfl, fun e => h e.symm⟩
                  · exact ⟨.inr h1.1, h1.2⟩
                · rintro ⟨rfl | h1, h2⟩
                  · exact .inl rfl
                  · exact .inr ⟨h1, h2⟩

/-- A rising list is one whose later elements are all above its head. -/
theorem rising_cons (a : Nat) (l : List Nat) :
    rising (a :: l) = true ↔ (∀ u ∈ l, a < u) ∧ rising l = true := by
  induction l generalizing a with
  | nil => simp [rising]
  | cons b bs ih =>
    have hb := ih b
    simp only [rising, Bool.and_eq_true, decide_eq_true_eq, List.mem_cons, forall_eq_or_imp]
    constructor
    · rintro ⟨h1, h2⟩
      exact ⟨⟨h1, fun u hu => Nat.lt_trans h1 ((hb.mp h2).1 u hu)⟩, h2⟩
    · rintro ⟨⟨h1, _⟩, h2⟩
      exact ⟨h1, h2⟩

/-- Inserting a tag keeps the set in its one form. -/
theorem rising_insertTag (tag : Nat) (l : List Nat) (h : rising l = true) :
    rising (insertTag tag l) = true := by
  induction l with
  | nil => simp [insertTag, rising]
  | cons t ts ih =>
    have ht := (rising_cons t ts).mp h
    unfold insertTag
    split
    · next hlt =>
      refine (rising_cons _ _).mpr ⟨?_, h⟩
      intro u hu
      rcases List.mem_cons.mp hu with rfl | hu
      · exact hlt
      · exact Nat.lt_trans hlt (ht.1 u hu)
    · split
      · exact h
      · next h1 h2 =>
        refine (rising_cons _ _).mpr ⟨?_, ih ht.2⟩
        intro u hu
        rcases (mem_insertTag tag u ts).mp hu with hu | rfl
        · exact ht.1 u hu
        · omega

/-- Removing a tag keeps the set in its one form. -/
theorem rising_removeTag (tag : Nat) (l : List Nat) (h : rising l = true) :
    rising (removeTag tag l) = true := by
  induction l with
  | nil => simp [removeTag, rising]
  | cons t ts ih =>
    have ht := (rising_cons t ts).mp h
    unfold removeTag
    split
    · exact ih ht.2
    · exact (rising_cons _ _).mpr ⟨fun u hu => ht.1 u ((mem_removeTag tag u ts).mp hu).1, ih ht.2⟩

/-- The whole of what settling a parser step can answer. -/
theorem settle_next_cases {r : Parsed} {t : State} (h : settle r = .next t) :
    r = .ok (t, .progress) ∨
    (∃ s, r = .ok (s, .needMore) ∧ t = needMoreExit s) ∨
    (∃ s c, r = .ok (s, .failure c) ∧ t = raiseFail c s) ∨
    (∃ s, r = .ok (s, .closeExit) ∧ t = closeExit s) := by
  unfold settle at h
  split at h <;> simp_all

/-- Settling never refuses. -/
theorem settle_not_refused (r : Parsed) (x : Refusal) : settle r ≠ .refused x := by
  unfold settle
  split <;> simp

/-- Settling faults only where the step did. -/
theorem settle_fault_iff (r : Parsed) (f : Fault) : settle r = .fault f ↔ r = .error f := by
  unfold settle
  split <;> simp_all

end Sys2Proof.Machine
end

