-- ==== Sys2Proof/Laws/Operands.lean ====
section
/-! SUPPORT. The operand forms: big-endian numbers, length bytes, the encoded frame. -/

namespace Sys2Proof.Machine

theorem beNat_append (a b : Bytes) : beNat (a ++ b) = beNat a * 256 ^ b.length + beNat b := by
  have key : ∀ (l : Bytes) (acc : Nat),
      l.foldl (fun acc x => acc * 256 + x.toNat) acc = acc * 256 ^ l.length + beNat l := by
    intro l
    induction l with
    | nil => intro acc; simp [beNat]
    | cons x xs ih =>
      intro acc
      simp only [List.foldl_cons, List.length_cons, beNat]
      rw [ih, ih (0 * 256 + x.toNat)]
      ring
  unfold beNat
  rw [List.foldl_append, key]
  rfl

/-- n bytes hold a number below 256^n. -/
theorem beNat_lt (b : Bytes) : beNat b < 256 ^ b.length := by
  induction b using List.reverseRecOn with
  | nil => simp [beNat]
  | append_singleton xs x ih =>
    rw [beNat_append]
    have hx : beNat [x] < 256 := by simp [beNat]; exact x.isLt
    simp only [List.length_append, List.length_singleton, pow_succ, pow_zero, one_mul]
    omega

/-- be16 of two bytes loses nothing. -/
theorem be16_toNat (b : Bytes) (h : b.length = 2) : (be16 b).toNat = beNat b := by
  have := beNat_lt b
  rw [h] at this
  simp only [be16, BitVec.toNat_ofNat]
  exact Nat.mod_eq_of_lt (by omega)

/-- be64 of eight bytes loses nothing. -/
theorem be64_toNat (b : Bytes) (h : b.length = 8) : (be64 b).toNat = beNat b := by
  have := beNat_lt b
  rw [h] at this
  simp only [be64, BitVec.toNat_ofNat]
  exact Nat.mod_eq_of_lt (by omega)

/-- Byte 1 and the extended-length bytes are H - 1 bytes (R104). -/
theorem lengthBytes_length (len : Nat) : (lengthBytes len).length + 1 = headerSize len := by
  unfold lengthBytes headerSize
  split
  · rfl
  · split <;> rfl

@[simp] theorem keyBytes_length (key : MaskKey) : (keyBytes key).length = 4 := rfl

@[simp] theorem maskFrom_length (key : MaskKey) (i : Nat) (p : Bytes) :
    (maskFrom key i p).length = p.length := by
  induction p generalizing i with
  | nil => rfl
  | cons b bs ih => simp [maskFrom, ih]

@[simp] theorem maskPayload_length (key : MaskKey) (p : Bytes) :
    (maskPayload key p).length = p.length := maskFrom_length key 0 p

/-- The code's two bytes read back as the code (R52). -/
theorem be16_codeBytes (code : BitVec 16) : be16 (codeBytes code) = code := by
  apply BitVec.eq_of_toNat_eq
  rw [be16_toNat _ rfl]
  have h := code.isLt
  simp [codeBytes, beNat, BitVec.extractLsb'_toNat, Nat.shiftRight_eq_div_pow]
  omega

/-- One byte of a frame's header size: the three length forms (R71). -/
theorem headerSize_cases (len : Nat) :
    (len ≤ 125 ∧ headerSize len = 2) ∨ (125 < len ∧ len ≤ 65535 ∧ headerSize len = 4) ∨
      (65535 < len ∧ headerSize len = 10) := by
  unfold headerSize
  simp only [Config.shortMax, Config.len16Max]
  by_cases h1 : len ≤ 125
  · exact .inl ⟨h1, if_pos h1⟩
  · by_cases h2 : len ≤ 65535
    · exact .inr (.inl ⟨by omega, h2, by rw [if_neg h1, if_pos h2]⟩)
    · exact .inr (.inr ⟨by omega, by rw [if_neg h1, if_neg h2]⟩)

end Sys2Proof.Machine
end

