-- ==== Sys2Proof/Laws/Parser.lean ====
section
/-! SUPPORT. What each parser step can answer, said once. -/

namespace Sys2Proof.Machine

/-- Ext16Step waits with too few bytes, or takes the length (R140, R142). -/
theorem ext16Step_eq (s : State) :
    (s.count < 2 ∧ ext16Step s = .ok (s, .needMore)) ∨
    (2 ≤ s.count ∧ ext16Step s = .ok ({ s.consume 2 with
      fLen := some ((be16 (s.memRead 0 2)).setWidth 64), pstate := .awaitingPayload }, .progress)) := by
  unfold ext16Step
  split
  · exact .inl ⟨‹_›, rfl⟩
  · exact .inr ⟨by omega, rfl⟩

/-- Ext64Step waits with too few bytes, or takes the length (R141, R142). -/
theorem ext64Step_eq (s : State) :
    (s.count < 8 ∧ ext64Step s = .ok (s, .needMore)) ∨
    (8 ≤ s.count ∧ ext64Step s = .ok ({ s.consume 8 with
      fLen := some (be64 (s.memRead 0 8)), pstate := .awaitingPayload }, .progress)) := by
  unfold ext64Step
  split
  · exact .inl ⟨‹_›, rfl⟩
  · exact .inr ⟨by omega, rfl⟩

/-- PayloadStep on a frame whose fields are written waits, or dispatches the frame (R143). -/
theorem payloadStep_eq (s : State) (op : Opcode) (len : BitVec 64) (ho : s.fOp = some op)
    (hl : s.fLen = some len) :
    (s.count < len.toNat ∧ payloadStep s = .ok (s, .needMore)) ∨
    (len.toNat ≤ s.count ∧ payloadStep s =
      .ok (dispatched op (s.memRead 0 len.toNat) (s.buf.drop len.toNat) s, .progress)) := by
  unfold payloadStep
  rw [ho, hl]
  simp only
  split
  · exact .inl ⟨‹_›, rfl⟩
  · refine .inr ⟨by omega, ?_⟩
    simp [dispatched, State.consume, State.emit, State.clearFrame]

/-- The header step of a frame that is not CLOSE, in its three length forms (R133, R138, R139). -/
theorem enterFrame_cases (op : Opcode) (fin : Bool) (len7 : BitVec 7) (s : State) :
    (len7.toNat ≤ 125 ∧ enterFrame op fin len7 s = { s.consume 2 with
      fFin := some fin, fOp := some op, fLen := some (len7.setWidth 64), pstate := .awaitingPayload }) ∨
    (len7.toNat = 126 ∧ enterFrame op fin len7 s = { s.consume 2 with
      fFin := some fin, fOp := some op, pstate := .awaitingExtended16Length }) ∨
    (len7.toNat = 127 ∧ enterFrame op fin len7 s = { s.consume 2 with
      fFin := some fin, fOp := some op, pstate := .awaitingExtended64Length }) := by
  have h := len7.isLt
  unfold enterFrame
  simp only [Config.shortMax, Config.len16Sentinel]
  split
  · exact .inl ⟨‹_›, rfl⟩
  · split
    · exact .inr (.inl ⟨‹_›, rfl⟩)
    · exact .inr (.inr ⟨by omega, rfl⟩)

/-- The header checks by their result (R134 to R136). -/
theorem headerCheck_cases (op : Opcode) (fin : Bool) (len7 : BitVec 7) :
    (headerCheck op fin len7 = some .fragmentedControl ∧ fin = false ∧ isData op = false) ∨
    (headerCheck op fin len7 = some .controlTooLong ∧ (fin = true ∨ isData op = true) ∧
      isControl op = true ∧ 125 < len7.toNat) ∨
    (headerCheck op fin len7 = none ∧ (fin = true ∨ isData op = true) ∧
      (isControl op = true → len7.toNat ≤ 125)) := by
  unfold headerCheck fragmentedControl controlTooLong
  simp only [Config.controlMax]
  cases fin <;> cases isData op <;> cases isControl op <;> simp <;> omega

/-- The close path's five ways (R205). -/
theorem closePath_cases (len7 : BitVec 7) (s : State) :
    (len7.toNat = 1 ∧ closePath len7 s = .ok (s, .failure .closeOneByte)) ∨
    (len7.toNat ≠ 1 ∧ s.count < 2 + len7.toNat ∧ closePath len7 s = .ok (s, .needMore)) ∨
    (len7.toNat ≠ 1 ∧ 2 + len7.toNat ≤ s.count ∧
      closeBodyFull ((s.buf.drop 2).take len7.toNat) = .invalid ∧
      closePath len7 s = .ok ((s.consume 2).consume len7.toNat, .failure .closeBodyInvalid)) ∨
    (∃ code reason, len7.toNat ≠ 1 ∧ 2 + len7.toNat ≤ s.count ∧
      closeBodyFull ((s.buf.drop 2).take len7.toNat) = .valid code reason ∧ s.sentClose = true ∧
      closePath len7 s = .ok (acceptClose ((s.consume 2).consume len7.toNat), .closeExit)) ∨
    (∃ code reason, len7.toNat ≠ 1 ∧ 2 + len7.toNat ≤ s.count ∧
      closeBodyFull ((s.buf.drop 2).take len7.toNat) = .valid code reason ∧ s.sentClose = false ∧
      closePath len7 s =
        .ok (acceptClose (echo code ((s.consume 2).consume len7.toNat)), .closeExit)) := by
  unfold closePath
  by_cases h1 : len7.toNat = 1
  · exact .inl ⟨h1, by rw [if_pos h1]⟩
  rw [if_neg h1]
  by_cases h2 : s.count < 2 + len7.toNat
  · exact .inr (.inl ⟨h1, h2, by rw [if_pos h2]⟩)
  rw [if_neg h2]
  have h3 : 2 + len7.toNat ≤ s.count := by omega
  have hb : (s.consume 2).memRead 0 len7.toNat = (s.buf.drop 2).take len7.toNat := rfl
  simp only [hb]
  cases hr : closeBodyFull ((s.buf.drop 2).take len7.toNat) with
  | invalid => exact .inr (.inr (.inl ⟨h1, h3, rfl, rfl⟩))
  | valid code reason =>
    cases hs : s.sentClose with
    | true => exact .inr (.inr (.inr (.inl ⟨code, reason, h1, h3, rfl, rfl, by simp [hs]⟩)))
    | false => exact .inr (.inr (.inr (.inr ⟨code, reason, h1, h3, rfl, rfl, by simp [hs]⟩)))

end Sys2Proof.Machine
end

