-- ==== Sys2Proof/Laws/Drive.lean ====
section
/-! SUPPORT. The drive loop and INGEST, unfolded once. -/

namespace Sys2Proof.Machine

@[simp] theorem drive_zero (s : State) : drive 0 s = .next s := rfl

theorem drive_stopped (fuel : Nat) (s : State) (h : s.driving = false) : drive fuel s = .next s := by
  cases fuel with
  | zero => rfl
  | succ n => simp [drive, h]

theorem drive_succ (fuel : Nat) (s : State) (h : s.driving = true) :
    drive (fuel + 1) s = match drivePass s with
      | .next t => drive fuel t
      | .fault f => .fault f
      | .refused r => .refused r := by
  simp only [drive, h, if_true] <;> cases drivePass s <;> rfl

/-- At AwaitingHeader with fewer than two bytes, a pass waits (R133). -/
theorem drivePass_short (s : State) (hp : s.pstate = .awaitingHeader) (h : s.count < 2) :
    drivePass s = .next (needMoreExit s) := by
  unfold drivePass
  rw [hp]
  simp only
  split
  · next b0 b1 rest hb => simp [State.count, hb] at h
  · rfl

/-- At AwaitingHeader with two bytes, a pass runs the frame they head (R133, R78). -/
theorem drivePass_header (s : State) (b0 b1 : Byte) (rest : Bytes) (hp : s.pstate = .awaitingHeader)
    (hb : s.buf = b0 :: b1 :: rest) :
    drivePass s = runFrame (opcodeOf b0) (finOf b0) (rsvOf b0) (maskOf b1) (len7Of b1) s := by
  unfold drivePass
  rw [hp, hb]

/-- Elsewhere a pass is the rest of the frame in progress. -/
theorem drivePass_rest (s : State) (hp : s.pstate ≠ .awaitingHeader) :
    drivePass s = settle (frameRest s) := by
  unfold drivePass
  split
  · next h => exact absurd h hp
  · rfl

/-- Sixteen opcodes, and no other (R78). -/
theorem opcode_cases (P : Opcode → Prop) (h0 : P 0x0) (h1 : P 0x1) (h2 : P 0x2) (h3 : P 0x3)
    (h4 : P 0x4) (h5 : P 0x5) (h6 : P 0x6) (h7 : P 0x7) (h8 : P 0x8) (h9 : P 0x9) (hA : P 0xA)
    (hB : P 0xB) (hC : P 0xC) (hD : P 0xD) (hE : P 0xE) (hF : P 0xF) (op : Opcode) : P op := by
  have h : op = 0x0 ∨ op = 0x1 ∨ op = 0x2 ∨ op = 0x3 ∨ op = 0x4 ∨ op = 0x5 ∨ op = 0x6 ∨ op = 0x7 ∨
      op = 0x8 ∨ op = 0x9 ∨ op = 0xA ∨ op = 0xB ∨ op = 0xC ∨ op = 0xD ∨ op = 0xE ∨ op = 0xF := by
    revert op
    decide
  rcases h with rfl | rfl | rfl | rfl | rfl | rfl | rfl | rfl | rfl | rfl | rfl | rfl | rfl | rfl | rfl |
    rfl <;> assumption

/-- The meaning of a frame by its opcode: CLOSE takes the close path, every other opcode the data path,
both behind the header checks. -/
theorem runFrame_eq (op : Opcode) (fin : Bool) (rsv : BitVec 3) (mask : Bool) (len7 : BitVec 7)
    (s : State) :
    runFrame op fin rsv mask len7 s = settle (checkedFrame op fin len7
      (if op = 0x8 then closePath len7 else dataPath op fin len7) s) := by
  revert op
  refine opcode_cases _ ?_ ?_ ?_ ?_ ?_ ?_ ?_ ?_ ?_ ?_ ?_ ?_ ?_ ?_ ?_ ?_ <;> rfl

/-- The chunk is within the capacity (R25). -/
theorem overCap_eq_false_iff (chunk : Bytes) (s : State) : overCap chunk s = false ↔ s.admits chunk := by
  unfold overCap State.admits
  split <;> simp_all

/-- INGEST by cases: after a failure, over the cap, or the drive loop (R130). -/
theorem execIngest_drives (chunk : Bytes) (sc : Bool) (s : State) (hf : s.failed = false)
    (hc : overCap chunk s = false) :
    execIngest chunk sc s =
      drive (driveFuel (beginIngest chunk sc s)) (beginIngest chunk sc s) := by
  simp [execIngest, hf, hc]

end Sys2Proof.Machine
end

