-- ==== Sys2Proof/Laws/PerInstr.lean ====
section
/-! SUPPORT. A law of every instruction as syntax: its encoded word meets the match and mask of its row in
spec/opcode_table.json. -/

namespace Sys2Proof.Laws.TableRow

/-- The match and the mask of a row with format hdr16, on the header word. -/
def headerMeets (e : Encoded) (match16 : BitVec 16) : Prop :=
  match e with
  | .frame b0 b1 => (b0 ++ b1 : BitVec 16) &&& 0x0F00 = match16
  | .command _ => False

/-- The match and the mask of a row with format cmd8, on the command word. -/
def commandMeets (e : Encoded) (match8 mask8 : BitVec 8) : Prop :=
  match e with
  | .frame _ _ => False
  | .command r => r.cw &&& mask8 = match8

/-- The instruction's encoded word meets its row. -/
def Statement (i : Instr) : Prop :=
  match i with
  | .continuation _ _ _ _ => headerMeets (encode i) 0x000
  | .text _ _ _ _ => headerMeets (encode i) 0x100
  | .binary _ _ _ _ => headerMeets (encode i) 0x200
  | .reserved3 _ _ _ _ => headerMeets (encode i) 0x300
  | .reserved4 _ _ _ _ => headerMeets (encode i) 0x400
  | .reserved5 _ _ _ _ => headerMeets (encode i) 0x500
  | .reserved6 _ _ _ _ => headerMeets (encode i) 0x600
  | .reserved7 _ _ _ _ => headerMeets (encode i) 0x700
  | .close _ _ _ _ => headerMeets (encode i) 0x800
  | .ping _ _ _ _ => headerMeets (encode i) 0x900
  | .pong _ _ _ _ => headerMeets (encode i) 0xA00
  | .reservedB _ _ _ _ => headerMeets (encode i) 0xB00
  | .reservedC _ _ _ _ => headerMeets (encode i) 0xC00
  | .reservedD _ _ _ _ => headerMeets (encode i) 0xD00
  | .reservedE _ _ _ _ => headerMeets (encode i) 0xE00
  | .reservedF _ _ _ _ => headerMeets (encode i) 0xF00
  | .ingest _ _ => commandMeets (encode i) 0x00 0xFF
  | .encode _ _ => commandMeets (encode i) 0x01 0x0F
  | .cbdFull _ => commandMeets (encode i) 0x02 0xFF
  | .cbdCode _ => commandMeets (encode i) 0x06 0xFF
  | .wrdone _ _ => commandMeets (encode i) 0x03 0xFF

/-- The OPCODE field of an encoded header is the opcode (R70). -/
theorem header_meets (op : Opcode) (fin : Bool) (rsv : BitVec 3) (mask : Bool) (len7 : BitVec 7) :
    headerMeets (encodeHeader op fin rsv mask len7) ((0#4 ++ op : BitVec 8) ++ (0#8)) := by
  have h0 : ∀ (op : Opcode) (fin : Bool) (rsv : BitVec 3),
      (BitVec.ofBool fin ++ rsv ++ op : BitVec 8) &&& 0x0F = (0#4 ++ op : BitVec 8) := by decide
  have h1 : ∀ (x y : BitVec 8), (x ++ y : BitVec 16) &&& 0x0F00 = ((x &&& 0x0F) ++ (0#8) : BitVec 16) := by
    intro x y
    have hm : (0x0F00 : BitVec 16) = (0x0F#8 ++ 0#8 : BitVec 16) := by decide
    rw [hm, BitVec.and_append]
    simp
  simp only [headerMeets, encodeHeader]
  rw [h1, h0]

theorem continuation (fin : Bool) (rsv : BitVec 3) (mask : Bool) (len7 : BitVec 7) :
    Statement (.continuation fin rsv mask len7) := header_meets 0x0 fin rsv mask len7

theorem text (fin : Bool) (rsv : BitVec 3) (mask : Bool) (len7 : BitVec 7) :
    Statement (.text fin rsv mask len7) := header_meets 0x1 fin rsv mask len7

theorem binary (fin : Bool) (rsv : BitVec 3) (mask : Bool) (len7 : BitVec 7) :
    Statement (.binary fin rsv mask len7) := header_meets 0x2 fin rsv mask len7

theorem reserved3 (fin : Bool) (rsv : BitVec 3) (mask : Bool) (len7 : BitVec 7) :
    Statement (.reserved3 fin rsv mask len7) := header_meets 0x3 fin rsv mask len7

theorem reserved4 (fin : Bool) (rsv : BitVec 3) (mask : Bool) (len7 : BitVec 7) :
    Statement (.reserved4 fin rsv mask len7) := header_meets 0x4 fin rsv mask len7

theorem reserved5 (fin : Bool) (rsv : BitVec 3) (mask : Bool) (len7 : BitVec 7) :
    Statement (.reserved5 fin rsv mask len7) := header_meets 0x5 fin rsv mask len7

theorem reserved6 (fin : Bool) (rsv : BitVec 3) (mask : Bool) (len7 : BitVec 7) :
    Statement (.reserved6 fin rsv mask len7) := header_meets 0x6 fin rsv mask len7

theorem reserved7 (fin : Bool) (rsv : BitVec 3) (mask : Bool) (len7 : BitVec 7) :
    Statement (.reserved7 fin rsv mask len7) := header_meets 0x7 fin rsv mask len7

theorem close (fin : Bool) (rsv : BitVec 3) (mask : Bool) (len7 : BitVec 7) :
    Statement (.close fin rsv mask len7) := header_meets 0x8 fin rsv mask len7

theorem ping (fin : Bool) (rsv : BitVec 3) (mask : Bool) (len7 : BitVec 7) :
    Statement (.ping fin rsv mask len7) := header_meets 0x9 fin rsv mask len7

theorem pong (fin : Bool) (rsv : BitVec 3) (mask : Bool) (len7 : BitVec 7) :
    Statement (.pong fin rsv mask len7) := header_meets 0xA fin rsv mask len7

theorem reservedB (fin : Bool) (rsv : BitVec 3) (mask : Bool) (len7 : BitVec 7) :
    Statement (.reservedB fin rsv mask len7) := header_meets 0xB fin rsv mask len7

theorem reservedC (fin : Bool) (rsv : BitVec 3) (mask : Bool) (len7 : BitVec 7) :
    Statement (.reservedC fin rsv mask len7) := header_meets 0xC fin rsv mask len7

theorem reservedD (fin : Bool) (rsv : BitVec 3) (mask : Bool) (len7 : BitVec 7) :
    Statement (.reservedD fin rsv mask len7) := header_meets 0xD fin rsv mask len7

theorem reservedE (fin : Bool) (rsv : BitVec 3) (mask : Bool) (len7 : BitVec 7) :
    Statement (.reservedE fin rsv mask len7) := header_meets 0xE fin rsv mask len7

theorem reservedF (fin : Bool) (rsv : BitVec 3) (mask : Bool) (len7 : BitVec 7) :
    Statement (.reservedF fin rsv mask len7) := header_meets 0xF fin rsv mask len7

theorem ingest (chunk : Bytes) (sentClose : Bool) : Statement (.ingest chunk sentClose) := by
  simp [Statement, commandMeets, Sys2Proof.encode]

theorem encode (op : Opcode) (payload : Option Bytes) : Statement (.encode op payload) := by
  have h : ∀ op : Opcode, (op ++ (0x1 : BitVec 4) : BitVec 8) &&& 0x0F = 0x01 := by decide
  exact h op

theorem cbdFull (body : Bytes) : Statement (.cbdFull body) := by
  simp [Statement, commandMeets, Sys2Proof.encode]

theorem cbdCode (body : Bytes) : Statement (.cbdCode body) := by
  simp [Statement, commandMeets, Sys2Proof.encode]

theorem wrdone (tag : Nat) (ok : Bool) : Statement (.wrdone tag ok) := by
  simp [Statement, commandMeets, Sys2Proof.encode]

end Sys2Proof.Laws.TableRow
end

