-- ==== Sys2Proof/Tests/Slice0.lean ====
section
/-! SUPPORT. The model's own tests, and for every statement with hypotheses a state and operands that meet
them. Expected results come from spec/95_test_vectors.md (the vector is named) or from the rule named. -/

namespace Sys2Proof.Tests

open Sys2Proof Sys2Proof.Machine

/-- The start of a vector (95_test_vectors.md, section 0): a fresh decoder, CLOSE_SIGNALS_DONE = true,
ECHO_NO_CODE = 00 00. -/
def fresh : State := { State.reset with
  cfg := { bufCap := none, closeSignalsDone := true, echoNoCode := some 0 } }

/-- The answer is a next state of which p holds. -/
def nextHas (r : Result) (p : State → Bool) : Bool :=
  match r with
  | .next t => p t
  | _ => false

theorem nextHas_exists {r : Result} {p : State → Bool} (h : nextHas r p = true) :
    ∃ t, r = .next t ∧ p t = true := by
  cases r with
  | next t => exact ⟨t, rfl, h⟩
  | fault f => simp [nextHas] at h
  | refused x => simp [nextHas] at h

/-- The answer is a next state with these events, in this parser state, with this buffer. -/
def gives (r : Result) (es : List Event) (ps : ParserState) (buf : Bytes) : Bool :=
  nextHas r (fun t => decide (t.events = es) && decide (t.pstate = ps) && decide (t.buf = buf))

/-- The answer is a failure with this cause, after these events. -/
def failsAfter (r : Result) (es : List Event) (c : FailCause) : Bool :=
  nextHas r (fun t => t.failed && decide (t.events.dropLast = es) &&
    match t.events.getLast? with
    | some (.fail c' _) => decide (c' = c)
    | _ => false)

/-- A vector's INGEST. -/
def ingest (s : State) (chunk : Bytes) : Result := exec (.ingest chunk false) s

/-! ## Well-formedness and decoding -/

/-- The ill-formed term: ENCODE of 2^48 bytes (R108). -/
theorem test_wellFormed_refuses_overlong_encode :
    (Instr.encode 0x1 (some (List.replicate (2 ^ 48) 0x00))).wellFormed = false := by
  simp only [Instr.wellFormed, List.length_replicate]
  decide

/-- OPCODE by OPCODE, FIN = 1, RSV = 000, MASK = 0, LEN7 = 5 (R70, R78). -/
theorem test_decode_frame_words :
    decodeTableWord 16 0b1000000000000101 = some (.continuation true 0 false 5) ∧
    decodeTableWord 16 0b1000000100000101 = some (.text true 0 false 5) ∧
    decodeTableWord 16 0b1000001000000101 = some (.binary true 0 false 5) ∧
    decodeTableWord 16 0b1000001100000101 = some (.reserved3 true 0 false 5) ∧
    decodeTableWord 16 0b1000010000000101 = some (.reserved4 true 0 false 5) ∧
    decodeTableWord 16 0b1000010100000101 = some (.reserved5 true 0 false 5) ∧
    decodeTableWord 16 0b1000011000000101 = some (.reserved6 true 0 false 5) ∧
    decodeTableWord 16 0b1000011100000101 = some (.reserved7 true 0 false 5) ∧
    decodeTableWord 16 0b1000100000000101 = some (.close true 0 false 5) ∧
    decodeTableWord 16 0b1000100100000101 = some (.ping true 0 false 5) ∧
    decodeTableWord 16 0b1000101000000101 = some (.pong true 0 false 5) ∧
    decodeTableWord 16 0b1000101100000101 = some (.reservedB true 0 false 5) ∧
    decodeTableWord 16 0b1000110000000101 = some (.reservedC true 0 false 5) ∧
    decodeTableWord 16 0b1000110100000101 = some (.reservedD true 0 false 5) ∧
    decodeTableWord 16 0b1000111000000101 = some (.reservedE true 0 false 5) ∧
    decodeTableWord 16 0b1000111100000101 = some (.reservedF true 0 false 5) := by decide

/-- FIN = 0, RSV = 101, MASK = 1, LEN7 = 1000010 are read from their own bits (R70). -/
theorem test_decode_header_fields :
    decodeTableWord 16 0b0101100111000010 = some (.ping false 0b101 true 0b1000010) := by decide

/-- 95_test_vectors.md 2.1. -/
theorem test_decode_command_words :
    decodeTableWord 8 0x00 = some (.ingest [] false) ∧ decodeTableWord 8 0x01 = some (.encode 0x0 none) ∧
    decodeTableWord 8 0x81 = some (.encode 0x8 none) ∧ decodeTableWord 8 0xF1 = some (.encode 0xF none) ∧
    decodeTableWord 8 0x02 = some (.cbdFull []) ∧ decodeTableWord 8 0x06 = some (.cbdCode []) ∧
    decodeTableWord 8 0x03 = some (.wrdone 0 false) := by decide

/-- 95_test_vectors.md 2.1, the refused words. -/
theorem test_decode_refused_words :
    [0x04, 0x05, 0x07, 0x08, 0x10, 0x12, 0xFF].all (fun w => (decodeTableWord 8 w).isNone) = true := by
  decide

/-- The encoder against R70 and R86: bytes written out. -/
theorem test_encode_words :
    encode (.ping false 0b101 true 0b1000010) = .frame 0b01011001 0b11000010 ∧
    encode (.encode 0x8 none) = .command ⟨0x81, none, false, 0⟩ ∧
    encode (.wrdone 7 true) = .command ⟨0x03, none, true, 7⟩ := by decide

/-- Either kind of placed word is what the next step runs. -/
theorem test_fetched_words_run :
    gives (step (State.withFetchWord fresh 16 0x8100)) [.dispatch 0x1 []] .awaitingHeader [] = true ∧
    gives (step (State.withFetchWord fresh 16 0x827E)) [.dispatch 0x2 []] .awaitingHeader [] = true ∧
    gives (step (State.withFetchWord fresh 8 0x00)) [.done] .awaitingHeader [] = true := by decide

/-! ## Frames: 95_test_vectors.md 2.4, column A (FIN = 1), B (FIN = 0) and C (LEN7 = 126) -/

theorem test_continuation_unfinished :
    gives (ingest fresh [0x00, 0x01, 0x5A]) [.dispatch 0x0 [0x5A], .done] .awaitingHeader [] = true := by
  decide

theorem test_text_zero_lengths_dispatch_at_once :  -- I5
    gives (ingest fresh [0x81, 0x00, 0x81, 0x00]) [.dispatch 0x1 [], .dispatch 0x1 [], .done]
      .awaitingHeader [] = true := by decide

theorem test_text_rsv_ignored :  -- I14
    gives (ingest fresh [0xF1, 0x02, 0x41, 0x42]) [.dispatch 0x1 [0x41, 0x42], .done]
      .awaitingHeader [] = true := by decide

theorem test_binary_nonminimal_16 :  -- I6
    gives (ingest fresh [0x82, 0x7E, 0x00, 0x03, 0x01, 0x02, 0x03])
      [.dispatch 0x2 [0x01, 0x02, 0x03], .done] .awaitingHeader [] = true := by decide

theorem test_binary_bit_63_kept :  -- I10
    nextHas (ingest fresh [0x82, 0x7F, 0x80, 0x00, 0x00, 0x00, 0x00, 0x00, 0x00, 0x00, 0x01])
      (fun t => decide (t.fLen = some 0x8000000000000000) && decide (t.buf = [0x01]) &&
        decide (t.pstate = .awaitingPayload)) = true := by decide

theorem test_reserved3 :
    gives (ingest fresh [0x83, 0x01, 0x5A]) [.dispatch 0x3 [0x5A], .done] .awaitingHeader [] = true ∧
    failsAfter (ingest fresh [0x03, 0x01, 0x5A]) [] .fragmentedControl = true := by decide

theorem test_reserved4 :
    gives (ingest fresh [0x84, 0x01, 0x5A]) [.dispatch 0x4 [0x5A], .done] .awaitingHeader [] = true ∧
    failsAfter (ingest fresh [0x04, 0x01, 0x5A]) [] .fragmentedControl = true := by decide

theorem test_reserved5 :
    gives (ingest fresh [0x85, 0x01, 0x5A]) [.dispatch 0x5 [0x5A], .done] .awaitingHeader [] = true ∧
    failsAfter (ingest fresh [0x05, 0x01, 0x5A]) [] .fragmentedControl = true := by decide

theorem test_reserved6 :
    gives (ingest fresh [0x86, 0x01, 0x5A]) [.dispatch 0x6 [0x5A], .done] .awaitingHeader [] = true ∧
    failsAfter (ingest fresh [0x06, 0x01, 0x5A]) [] .fragmentedControl = true := by decide

theorem test_reserved7 :
    gives (ingest fresh [0x87, 0x01, 0x5A]) [.dispatch 0x7 [0x5A], .done] .awaitingHeader [] = true ∧
    failsAfter (ingest fresh [0x07, 0x01, 0x5A]) [] .fragmentedControl = true := by decide

theorem test_ping :  -- and Q1: fragmentation is reported before the cap
    gives (ingest fresh [0x89, 0x01, 0x5A]) [.dispatch 0x9 [0x5A], .done] .awaitingHeader [] = true ∧
    failsAfter (ingest fresh [0x09, 0x7E]) [] .fragmentedControl = true := by decide

theorem test_ping_capped_on_len7 :  -- X11
    failsAfter (ingest fresh [0x89, 0x7E, 0x00, 0x01, 0x5A]) [] .controlTooLong = true := by decide

theorem test_pong :  -- and O4
    gives (ingest fresh [0x8A, 0x02, 0x01, 0x02]) [.dispatch 0xA [0x01, 0x02], .done]
      .awaitingHeader [] = true ∧
    failsAfter (ingest fresh [0x8A, 0x7F]) [] .controlTooLong = true := by decide

theorem test_reservedB_not_capped :
    gives (ingest fresh [0x8B, 0x7E, 0x00, 0x02, 0xAA, 0xBB]) [.dispatch 0xB [0xAA, 0xBB], .done]
      .awaitingHeader [] = true ∧
    failsAfter (ingest fresh [0x0B, 0x00]) [] .fragmentedControl = true := by decide

theorem test_reservedC :
    gives (ingest fresh [0x8C, 0x00]) [.dispatch 0xC [], .done] .awaitingHeader [] = true ∧
    failsAfter (ingest fresh [0x0C, 0x00]) [] .fragmentedControl = true := by decide

theorem test_reservedD :
    gives (ingest fresh [0x8D, 0x00]) [.dispatch 0xD [], .done] .awaitingHeader [] = true ∧
    failsAfter (ingest fresh [0x0D, 0x00]) [] .fragmentedControl = true := by decide

theorem test_reservedE :
    gives (ingest fresh [0x8E, 0x00]) [.dispatch 0xE [], .done] .awaitingHeader [] = true ∧
    failsAfter (ingest fresh [0x0E, 0x00]) [] .fragmentedControl = true := by decide

theorem test_reservedF_not_capped :  -- O1
    gives (ingest fresh [0x8F, 0x7F, 0x00, 0x00, 0x00, 0x00, 0x00, 0x00, 0x00, 0x01, 0x5A])
      [.dispatch 0xF [0x5A], .done] .awaitingHeader [] = true ∧
    failsAfter (ingest fresh [0x0F, 0x00]) [] .fragmentedControl = true := by decide

theorem test_close_failures :  -- K13, K6, Q4, Q2
    failsAfter (ingest fresh [0x88, 0x01, 0x03, 0xE8]) [] .closeOneByte = true ∧
    failsAfter (ingest fresh [0x88, 0x02, 0x03, 0xE7]) [] .closeBodyInvalid = true ∧
    failsAfter (ingest fresh [0x88, 0x7E, 0x00, 0x02, 0x03, 0xE8]) [] .controlTooLong = true ∧
    failsAfter (ingest fresh [0x08, 0x01]) [] .fragmentedControl = true := by decide

theorem test_close_echo_leaves_rest :  -- K10
    nextHas (ingest fresh [0x88, 0x02, 0x03, 0xE8, 0x81, 0x00]) (fun t =>
      decide (t.buf = [0x81, 0x00]) && decide (t.inflight = [0]) && decide (t.nextTag = 1) &&
      decide (writeTags t.events = [0]) && decide (t.events.length = 4) &&
      decide (t.events.drop 1 = [.setReadyStateClosing, .setReceivedClose, .done])) = true := by decide

/-! ## Commands -/

theorem test_ingest_one_byte_at_a_time :  -- X6, the second and the last byte
    nextHas (ingest { fresh with buf := [0x81] } [0x02]) (fun t =>
      decide (t.pstate = .awaitingPayload) && decide (t.buf = []) && decide (t.fLen = some 2)) = true ∧
    gives (ingest { fresh with
        pstate := .awaitingPayload, buf := [0x48], fFin := some true, fOp := some 0x1, fLen := some 2 }
      [0x69]) [.dispatch 0x1 [0x48, 0x69], .done] .awaitingHeader [] = true := by decide

theorem test_ingest_masked_input_is_misparsed :  -- I19
    failsAfter (ingest fresh [0x81, 0x82, 0x12, 0x34, 0x56, 0x78, 0x5A, 0x5D])
      [.dispatch 0x1 [0x12, 0x34]] .fragmentedControl = true := by decide

/-- E3 and E8: key and payload given, as the draw is free. -/
theorem test_encodeFrame_vectors :
    encodeFrame 0x1 [0x48, 0x69] ⟨0x12, 0x34, 0x56, 0x78⟩ =
      [0x81, 0x82, 0x12, 0x34, 0x56, 0x78, 0x5A, 0x5D] ∧
    encodeFrame 0x2 [0x01, 0x02, 0x03, 0x04, 0x05] ⟨0x10, 0x20, 0x30, 0x40⟩ =
      [0x82, 0x85, 0x10, 0x20, 0x30, 0x40, 0x11, 0x22, 0x33, 0x44, 0x15] := by decide

/-- R104's corner values 125, 126, 65535, 65536 and E15's 2^32. -/
theorem test_length_bytes :
    lengthBytes 125 = [0xFD] ∧ lengthBytes 126 = [0xFE, 0x00, 0x7E] ∧
    lengthBytes 65535 = [0xFE, 0xFF, 0xFF] ∧
    lengthBytes 65536 = [0xFF, 0x00, 0x00, 0x00, 0x00, 0x00, 0x01, 0x00, 0x00] ∧
    lengthBytes (2 ^ 32) = [0xFF, 0x00, 0x00, 0x00, 0x01, 0x00, 0x00, 0x00, 0x00] := by decide

theorem test_cbdFull :  -- B1, B3, B6
    gives (exec (.cbdFull [0x03, 0xE8]) fresh) [.cbdOut (.valid (some 1000) (some ""))]
      .awaitingHeader [] = true ∧
    gives (exec (.cbdFull [0x03]) fresh) [.cbdOut (.valid none (some ""))] .awaitingHeader [] = true ∧
    gives (exec (.cbdFull [0x03, 0xE8, 0xEF, 0xBB, 0xBF]) fresh)
      [.cbdOut (.valid (some 1000) (some ""))] .awaitingHeader [] = true := by decide

theorem test_cbdFull_code_checked_first :  -- B9
    gives (exec (.cbdFull [0x03, 0xE7, 0x6F, 0x6B]) fresh) [.cbdOut .invalid] .awaitingHeader [] = true := by
  decide

theorem test_cbdCode :  -- B10, B11, B12
    gives (exec (.cbdCode [0x03, 0xE8, 0xFF]) fresh) [.cbdOut (.valid (some 1000) none)]
      .awaitingHeader [] = true ∧
    gives (exec (.cbdCode [0x03, 0xE7]) fresh) [.cbdOut .invalid] .awaitingHeader [] = true ∧
    gives (exec (.cbdCode []) fresh) [.cbdOut (.valid none none)] .awaitingHeader [] = true := by decide

theorem test_wrdone :  -- W1, W2, W4 from inflight 0
    nextHas (exec (.wrdone 5 true) { fresh with inflight := [0], nextTag := 1 })
      (fun t => decide (t.inflight = [0]) && decide (t.events = [])) = true ∧
    nextHas (exec (.wrdone 0 true) { fresh with inflight := [0], nextTag := 1 })
      (fun t => decide (t.inflight = []) && t.sentClose && decide (t.events = [.setSentClose])) = true ∧
    nextHas (exec (.wrdone 0 false) { fresh with inflight := [0], nextTag := 1 })
      (fun t => decide (t.inflight = []) && !t.sentClose && decide (t.events = [])) = true := by decide

/-! ## Witnesses: the hypotheses of each statement, met -/

/-- The rows the witnesses take. -/
theorem text_is_data : ((0x1 : Opcode), Instr.text) ∈ dataFrames := by simp [dataFrames]
theorem reservedB_is_reserved : ((0xB : Opcode), Instr.reservedB) ∈ reservedFrames := by
  simp [reservedFrames]
theorem ping_is_pingPong : ((0x9 : Opcode), Instr.ping) ∈ pingPongFrames := by simp [pingPongFrames]
theorem close_is_close : ((0x8 : Opcode), Instr.close) ∈ closeFrames := by simp [closeFrames]

theorem witness_HeaderWordFields :
    ((0x1 : Opcode), Instr.text) ∈ allFrames ∧ 0x8105 < 65536 ∧
      BitVec.ofNat 4 (0x8105 / 2 ^ 8) = (0x1 : Opcode) :=
  ⟨by simp [allFrames, dataFrames], by decide, by decide⟩

theorem witness_CommandWordsSelectTheirCommand :
    let r : Request := ⟨0x10, none, false, 0⟩
    let s : State := { fresh with port := [r] }
    s.driving = false ∧ s.port = r :: [] ∧ r.cw ≠ 0b00000000 ∧ r.cw.extractLsb' 0 4 ≠ 0b0001#4 ∧
      r.cw ≠ 0b00000010 ∧ r.cw ≠ 0b00000110 ∧ r.cw ≠ 0b00000011 := by decide

theorem witness_EncodeEmitsOneFrame : ((none : Option Bytes).getD []).length ≤ 2 ^ 48 - 1 := by decide

/-- The three length forms at their boundaries. -/
theorem witness_EncodedFrame :
    (List.replicate 125 (0x00 : Byte)).length ≤ 125 ∧
    (125 < (List.replicate 126 (0x00 : Byte)).length ∧ (List.replicate 126 (0x00 : Byte)).length ≤ 65535) ∧
    (125 < (List.replicate 65535 (0x00 : Byte)).length ∧
      (List.replicate 65535 (0x00 : Byte)).length ≤ 65535) ∧
    (65535 < (List.replicate 65536 (0x00 : Byte)).length ∧
      (List.replicate 65536 (0x00 : Byte)).length ≤ 2 ^ 48 - 1) := by
  simp only [List.length_replicate]
  decide

theorem witness_EncodeRefusesOverlongPayload :
    2 ^ 48 ≤ (List.replicate (2 ^ 48) (0x00 : Byte)).length := by simp only [List.length_replicate]; exact le_refl _

/-- I21: two of four bytes buffered. -/
def full : State := { fresh with buf := [0x48, 0x65], cfg := { fresh.cfg with bufCap := some 4 } }

/-- A decoder without a capacity takes every chunk. -/
theorem fresh_admits (chunk : Bytes) : fresh.admits chunk := by rintro cap ⟨⟩

/-- A decoder with one takes a chunk that fills it to the last byte. -/
theorem full_admits : full.admits [0x6C, 0x6C] := by
  rintro cap ⟨⟩
  decide

theorem witness_EncodeDecodeRoundTrip :
    (0x9 : Opcode) ≠ 0x8 ∧ fresh.pstate = .awaitingHeader ∧ fresh.buf = [] ∧ fresh.failed = false ∧
      (∀ frame, fresh.admits frame) ∧ (List.replicate 125 (0x00 : Byte)).length ≤ 125 ∧
      125 < (List.replicate 126 (0x00 : Byte)).length ∧
      (List.replicate 126 (0x00 : Byte)).length ≤ 2 ^ 48 - 1 := by
  refine ⟨by decide, by decide, by decide, by decide, fresh_admits, ?_⟩
  simp only [List.length_replicate]
  decide

theorem witness_ShortBody : ([0x03] : Bytes).length < 2 := by decide

theorem witness_OneByteOrderMarkIsStripped :
    ([0xEF, 0xBB] : Bytes).take 3 ≠ [0xEF, 0xBB, 0xBF] := by decide

theorem witness_WrdoneCompletesAWriteInFlight : 0 ∈ ({ fresh with inflight := [0] } : State).inflight := by
  decide

theorem witness_WrdoneIgnoresAnUnknownTag : 5 ∉ ({ fresh with inflight := [0] } : State).inflight := by
  decide

theorem witness_IngestAfterFailureDoesNothing : ({ fresh with failed := true } : State).failed = true := by
  decide

theorem witness_IngestOverTheCapIsStuck :
    full.failed = false ∧ full.cfg.bufCap = some 4 ∧ 4 < full.buf.length + [0x6C, 0x6C, 0x6F].length := by
  decide

theorem fresh_inv : fresh.Inv := by unfold State.Inv; decide

theorem witness_IngestEndsInOneOfThreeWays :
    full.Inv ∧ full.failed = false ∧ full.admits [0x6C, 0x6C] :=
  ⟨by unfold State.Inv; decide, rfl, full_admits⟩

/-- A decoder that waits for the payload of a TEXT frame of two bytes. -/
def waitingText : State := { fresh with
  pstate := .awaitingPayload, fFin := some true, fOp := some 0x1, fLen := some 2 }

theorem witness_IngestWaitsForItsBytes :
    (fresh.pstate = .awaitingHeader ∧ (fresh.buf ++ [0x81]).length < 2) ∧
    (({ fresh with pstate := .awaitingExtended16Length } : State).pstate = .awaitingExtended16Length ∧
      (fresh.buf ++ [0x00]).length < 2) ∧
    (({ fresh with pstate := .awaitingExtended64Length } : State).pstate = .awaitingExtended64Length ∧
      (fresh.buf ++ List.replicate 7 0x00).length < 8) ∧
    (waitingText.pstate = .awaitingPayload ∧ waitingText.fOp = some 0x1 ∧
      waitingText.fLen = some 2 ∧ (waitingText.buf ++ [0x48]).length < (2 : BitVec 64).toNat) ∧
    fresh.failed = false ∧ waitingText.failed = false := by decide

/-- The same within a capacity: f_len = 5 and four bytes buffered. -/
theorem witness_IngestWaitsForItsBytes_capacity :
    let s : State := { full with
      pstate := .awaitingPayload, fFin := some true, fOp := some 0x1, fLen := some 5 }
    s.failed = false ∧ s.admits [0x6C, 0x6C] ∧
      (s.buf ++ [0x6C, 0x6C]).length < (5 : BitVec 64).toNat := by
  refine ⟨by decide, full_admits, by decide⟩

theorem witness_IngestCompletesTheFrameInProgress :
    (waitingText.failed = false ∧ waitingText.fOp = some 0x1 ∧ waitingText.fLen = some 2) ∧
    (waitingText.buf ++ [0x48, 0x69, 0x81] = [] ++ [0x48, 0x69] ++ [0x81] ∧ ([0x81] : Bytes).length < 2 ∧
      ([0x48, 0x69] : Bytes).length = (2 : BitVec 64).toNat) ∧
    (([] : Bytes) ++ [0x00, 0x01, 0x5A] = [0x00, 0x01] ++ [0x5A] ++ [] ∧
      ([0x00, 0x01] : Bytes).length = 2 ∧ ([0x5A] : Bytes).length = (be16 [0x00, 0x01]).toNat) ∧
    (([] : Bytes) ++ List.replicate 8 0x00 = List.replicate 8 0x00 ++ [] ++ [] ∧
      (List.replicate 8 (0x00 : Byte)).length = 8 ∧
      ([] : Bytes).length = (be64 (List.replicate 8 0x00)).toNat) := by decide

theorem waitingText_admits (chunk : Bytes) : waitingText.admits chunk := by rintro cap ⟨⟩

theorem witness_DriveLoopAgreesWithR131 :
    ({ fresh with driving := true } : State).driving = true ∧ full.failed = false ∧
      full.admits [0x6C, 0x6C] ∧ 3 * ((full.buf ++ [0x6C, 0x6C]).length / 2) + 2 ≤ 8 :=
  ⟨by decide, by decide, full_admits, by decide⟩

theorem witness_ChunkingDoesNotChangeTheEvents :
    fresh.failed = false ∧ fresh.admits ([0x81, 0x02] ++ [0x48, 0x69]) ∧
      ∃ t, exec (.ingest ([0x81, 0x02] ++ [0x48, 0x69]) false) fresh = .next t ∧
        t.closesAccepted = fresh.closesAccepted ∧ t.failed = false := by
  refine ⟨by decide, fresh_admits _, ?_⟩
  have h : nextHas (exec (.ingest ([0x81, 0x02] ++ [0x48, 0x69]) false) fresh)
      (fun t => decide (t.closesAccepted = fresh.closesAccepted) && !t.failed) = true := by decide
  obtain ⟨t, ht, hp⟩ := nextHas_exists h
  simp only [Bool.and_eq_true, decide_eq_true_eq, Bool.not_eq_true'] at hp
  exact ⟨t, ht, hp.1, hp.2⟩

theorem witness_CloseExitLeavesTheRest :
    fresh.failed = false ∧ fresh.admits [0x88, 0x02, 0x03, 0xE8, 0x81, 0x00] ∧
      fresh.pstate = .awaitingHeader ∧
      fresh.buf ++ [0x88, 0x02, 0x03, 0xE8, 0x81, 0x00] =
        0x88 :: 0x02 :: ([0x03, 0xE8] ++ [0x81, 0x00]) ∧
      closeHeader 0x88 0x02 [0x03, 0xE8] ∧
      closeBodyFull [0x03, 0xE8] = .valid (some 1000) (some "") := by
  refine ⟨by decide, fresh_admits _, by decide, by decide, ?_, by decide⟩
  unfold closeHeader
  decide

/-- A decoder with one byte of its capacity of seven taken: the first byte of a CLOSE. -/
def closing : State := { fresh with buf := [0x88], cfg := { fresh.cfg with bufCap := some 7 } }

/-- A CLOSE with code 1000, then one without a body that comes with RSV and MASK set and in two chunks;
after the first, the echo's write has failed (R213). -/
theorem witness_SecondCloseEchoesAgain :
    closing.failed = false ∧ closing.admits [0x02, 0x03, 0xE8, 0xF8] ∧ closing.pstate = .awaitingHeader ∧
      closing.buf ++ [0x02, 0x03, 0xE8, 0xF8] = 0x88 :: 0x02 :: ([0x03, 0xE8] ++ [0xF8]) ∧
      closeHeader 0x88 0x02 [0x03, 0xE8] ∧
      closeBodyFull [0x03, 0xE8] = .valid (some 1000) (some "") ∧
      ([0xF8] : Bytes) ++ [0x80] = 0xF8 :: 0x80 :: ([] ++ []) ∧ closeHeader 0xF8 0x80 [] ∧
      closeBodyFull [] = .valid none (some "") ∧
      ∃ t u : State, exec (.ingest [0x02, 0x03, 0xE8, 0xF8] false) closing = .next t ∧
        exec (.wrdone 0 false) t = .next u ∧ u.pstate = t.pstate ∧ u.buf = t.buf ∧
        u.failed = t.failed ∧ u.cfg = t.cfg ∧ u.nextTag = t.nextTag ∧ u.admits [0x80] := by
  refine ⟨by decide, ?_, by decide, by decide, by unfold closeHeader; decide, by decide, by decide,
    by unfold closeHeader; decide, by decide, ?_⟩
  · rintro cap ⟨⟩
    decide
  · have h : nextHas (exec (.ingest [0x02, 0x03, 0xE8, 0xF8] false) closing) (fun t =>
        decide (t.inflight = [0]) && decide (t.buf = [0xF8]) && decide (t.cfg = closing.cfg)) = true := by
      decide
    obtain ⟨t, ht, hp⟩ := nextHas_exists h
    simp only [Bool.and_eq_true, decide_eq_true_eq] at hp
    obtain ⟨⟨hi, hb⟩, hc⟩ := hp
    refine ⟨t, { t with inflight := [] }, ht, ?_, rfl, rfl, rfl, rfl, rfl, ?_⟩
    · simp [exec, execWrdone, hi, removeTag]
    · intro cap hcap
      have h7 : (7 : Nat) = cap := by
        have : closing.cfg.bufCap = some cap := hc ▸ hcap
        exact Option.some.inj this
      simp [hb, ← h7]

theorem witness_HeaderWaitsForTwoBytes :
    ((0x1 : Opcode), Instr.text) ∈ allFrames ∧ ({ fresh with buf := [0x81] } : State).buf.length < 2 :=
  ⟨by simp [allFrames, dataFrames], by decide⟩

/-- A data frame with FIN = 0 and a reserved one with FIN = 1; LEN7 at its boundary 125. -/
theorem witness_ShortFrameIsDispatched :
    (((0x1 : Opcode), Instr.text) ∈ dataFrames ∧
      ({ fresh with buf := [0x01, 0x01, 0x5A] } : State).buf = 0x01 :: 0x01 :: ([0x5A] ++ []) ∧
      (1 : BitVec 7).toNat ≤ 125 ∧ ([0x5A] : Bytes).length = (1 : BitVec 7).toNat) ∧
    (((0x9 : Opcode), Instr.ping) ∈ pingPongFrames ∧ (125 : BitVec 7).toNat ≤ 125 ∧
      (List.replicate 125 (0x00 : Byte)).length = (125 : BitVec 7).toNat) :=
  ⟨⟨text_is_data, by decide, by decide, by decide⟩, ping_is_pingPong, by decide,
    by simp only [List.length_replicate]; decide⟩

theorem witness_SixteenBitFrameIsDispatched :
    ((0xB : Opcode), Instr.reservedB) ∈ reservedFrames ∧
      ({ fresh with buf := [0x8B, 0x7E, 0x00, 0x01, 0x5A] } : State).buf =
        0x8B :: 0x7E :: 0x00 :: 0x01 :: ([0x5A] ++ []) ∧
      ([0x5A] : Bytes).length = (0x00 : Byte).toNat * 256 + (0x01 : Byte).toNat :=
  ⟨reservedB_is_reserved, by decide, by decide⟩

theorem witness_SixtyFourBitFrameIsDispatched :
    ((0x1 : Opcode), Instr.text) ∈ dataFrames ∧
      ({ fresh with buf := [0x81, 0x7F, 0, 0, 0, 0, 0, 0, 0, 0x02, 0x41, 0x42] } : State).buf =
        0x81 :: 0x7F :: 0 :: 0 :: 0 :: 0 :: 0 :: 0 :: 0 :: 0x02 :: ([0x41, 0x42] ++ []) ∧
      ([0x41, 0x42] : Bytes).length = (0 : Byte).toNat * 256 ^ 7 + (0 : Byte).toNat * 256 ^ 6 +
        (0 : Byte).toNat * 256 ^ 5 + (0 : Byte).toNat * 256 ^ 4 + (0 : Byte).toNat * 256 ^ 3 +
        (0 : Byte).toNat * 256 ^ 2 + (0 : Byte).toNat * 256 + (0x02 : Byte).toNat :=
  ⟨text_is_data, by decide, by decide⟩

theorem witness_ShortFrameWaitsForItsPayload :
    ((0x1 : Opcode), Instr.text) ∈ dataFrames ∧
      ({ fresh with buf := [0x81, 0x7D] } : State).buf = 0x81 :: 0x7D :: [] ∧
      (125 : BitVec 7).toNat ≤ 125 ∧ ([] : Bytes).length < (125 : BitVec 7).toNat :=
  ⟨text_is_data, by decide, by decide, by decide⟩

theorem witness_ExtendedFrameWaitsForItsLength :
    ((0x1 : Opcode), Instr.text) ∈ dataFrames ∧
      ({ fresh with buf := [0x82, 0x7E, 0x00] } : State).buf = 0x82 :: 0x7E :: [0x00] ∧
      ([0x00] : Bytes).length < 2 ∧ (List.replicate 7 (0x00 : Byte)).length < 8 :=
  ⟨text_is_data, by decide, by decide, by decide⟩

theorem witness_ExtendedFrameWaitsForItsPayload :
    ((0x1 : Opcode), Instr.text) ∈ dataFrames ∧
      ({ fresh with buf := [0x82, 0x7E, 0x00, 0x01] } : State).buf =
        0x82 :: 0x7E :: ([0x00, 0x01] ++ []) ∧
      ([0x00, 0x01] : Bytes).length = 2 ∧ ([] : Bytes).length < (be16 [0x00, 0x01]).toNat ∧
      (List.replicate 8 (0xFF : Byte)).length = 8 ∧
      ([] : Bytes).length < (be64 (List.replicate 8 0xFF)).toNat :=
  ⟨text_is_data, by decide, by decide, by decide, by decide, by decide⟩

theorem witness_FragmentedControlFails :
    ((0x8 : Opcode), Instr.close) ∈ reservedFrames ++ pingPongFrames ++ closeFrames ∧
      ((0x1 : Opcode), Instr.text) ∈ dataFrames ∧
      ({ fresh with buf := [0x08, 0x7E] } : State).buf = 0x08 :: 0x7E :: [] :=
  ⟨List.mem_append_right _ close_is_close, text_is_data, by decide⟩

theorem witness_LongControlFrameFails :
    ((0x9 : Opcode), Instr.ping) ∈ pingPongFrames ++ closeFrames ∧
      ({ fresh with buf := [0x89, 0x7E] } : State).buf = 0x89 :: 0x7E :: [] ∧
      125 < (126 : BitVec 7).toNat :=
  ⟨List.mem_append_left _ ping_is_pingPong, by decide, by decide⟩

theorem witness_OneByteCloseFails :
    ({ fresh with buf := [0x88, 0x01] } : State).buf = 0x88 :: 0x01 :: [] := by decide

theorem witness_CloseWaitsForItsBody :
    ({ fresh with buf := [0x88, 0x7D, 0x03] } : State).buf = 0x88 :: 0x7D :: [0x03] ∧
      (125 : BitVec 7).toNat ≤ 125 ∧ (125 : BitVec 7).toNat ≠ 1 ∧
      ([0x03] : Bytes).length < (125 : BitVec 7).toNat := by decide

theorem witness_InvalidCloseBodyFails :
    ({ fresh with buf := [0x88, 0x02, 0x03, 0xE7] } : State).buf = 0x88 :: 0x02 :: ([0x03, 0xE7] ++ []) ∧
      ([0x03, 0xE7] : Bytes).length = (2 : BitVec 7).toNat ∧ (2 : BitVec 7).toNat ≤ 125 ∧
      (2 : BitVec 7).toNat ≠ 1 ∧ closeBodyFull [0x03, 0xE7] = .invalid := by decide

theorem witness_CloseEchoesItsCode :
    ({ fresh with buf := [0x88, 0x02, 0x03, 0xE8] } : State).buf = 0x88 :: 0x02 :: 0x03 :: 0xE8 :: ([] ++ []) ∧
      (2 : BitVec 7).toNat = ([] : Bytes).length + 2 ∧ (2 : BitVec 7).toNat ≤ 125 ∧
      closeBodyFull (0x03 :: 0xE8 :: []) = .valid (some (be16 [0x03, 0xE8])) (some "") ∧
      fresh.sentClose = false := by decide

theorem witness_CloseIsNotEchoedTwice :
    ({ fresh with buf := [0x88, 0x02, 0x03, 0xE8], sentClose := true } : State).buf =
        0x88 :: 0x02 :: ([0x03, 0xE8] ++ []) ∧
      ([0x03, 0xE8] : Bytes).length = (2 : BitVec 7).toNat ∧ (2 : BitVec 7).toNat ≤ 125 ∧
      (2 : BitVec 7).toNat ≠ 1 ∧ closeBodyFull [0x03, 0xE8] = .valid (some 1000) (some "") ∧
      ({ fresh with buf := [0x88, 0x02, 0x03, 0xE8], sentClose := true } : State).sentClose = true := by
  decide

/-- ECHO_NO_CODE given in the first state and not given after construction. -/
theorem witness_CloseWithoutCodeEchoesEchoNoCode :
    ({ fresh with buf := [0x88, 0x00] } : State).buf = 0x88 :: 0x00 :: [] ∧ fresh.sentClose = false ∧
      fresh.cfg.echoNoCode = some 0 ∧ State.reset.cfg.echoNoCode = none := by decide

/-- TEXT with LEN7 = 4; PING with LEN7 = 0; a reserved opcode with LEN7 = 126; a CLOSE whose key begins
with the code 1000, and one whose key begins with 999. -/
theorem witness_MaskedFrameIsMisparsed :
    (((0x1 : Opcode), Instr.text) ∈ dataFrames ∧ frameLength 4 [] ([5, 6, 7, 8] : Bytes).length ∧
      ({ fresh with buf := [0x81, 0x84, 1, 2, 3, 4, 5, 6, 7, 8] } : State).buf =
        0x81 :: 0x84 :: ([] ++ ([1, 2, 3, 4] ++ [5, 6, 7, 8]) ++ [])) ∧
    (((0x9 : Opcode), Instr.ping) ∈ pingPongFrames ∧ (0 : BitVec 7).toNat ≤ 125 ∧
      frameLength 0 [] ([] : Bytes).length) ∧
    (((0xB : Opcode), Instr.reservedB) ∈ reservedFrames ∧
      ((0xB : Opcode), Instr.reservedB) ∉ pingPongFrames ∧
      frameLength 126 [0x00, 0x01] ([5] : Bytes).length ∧
      frameLength 127 (List.replicate 8 0x00) ([] : Bytes).length) ∧
    (([5, 6] : Bytes).length = (2 : BitVec 7).toNat ∧ (2 : BitVec 7).toNat ≤ 125 ∧
      (2 : BitVec 7).toNat ≠ 1 ∧
      ({ fresh with buf := [0x88, 0x82, 0x03, 0xE8, 3, 4, 5, 6] } : State).buf =
        0x88 :: 0x82 :: ([0x03, 0xE8, 3, 4] ++ [5, 6] ++ []) ∧
      closeBodyFull (([0x03, 0xE8, 3, 4] ++ [5, 6]).take 2) = .valid (some 1000) (some "") ∧
      closeBodyFull (([0x03, 0xE7, 3, 4] ++ [5, 6]).take 2) = .invalid) := by
  refine ⟨⟨text_is_data, .inl (by decide), by decide⟩, ⟨ping_is_pingPong, by decide, .inl (by decide)⟩,
    ⟨reservedB_is_reserved, ?_, .inr (.inl (by decide)), .inr (.inr (by decide))⟩, by decide⟩
  simp [pingPongFrames]

/-- An ENCODE completes, and an INGEST is no ENCODE. -/
theorem witness_EncodeSharesNoStateWithTheDecoder :
    (∃ t, exec (.encode 0x1 none) fresh = .next t) ∧
      ∀ op payload, Instr.ingest [0x81, 0x00] false ≠ .encode op payload :=
  ⟨⟨_, rfl⟩, by intro op payload h; cases h⟩

/-- An INGEST that is not ignored, its operand true. -/
theorem witness_ConnectionFlags_ingest :
    nextHas (exec (.ingest [0x81] true) fresh) (fun t => t.sentClose && !fresh.failed) = true := by decide

/-- An ENCODE before a CLOSE does not change the echo (R67). -/
theorem test_encode_does_not_change_the_echo :
    match exec (.encode 0x1 none) fresh with
    | .next t =>
      match ingest t [0x88, 0x02, 0x03, 0xE8], ingest fresh [0x88, 0x02, 0x03, 0xE8] with
      | .next u, .next v => u.events.drop 1 = v.events ∧ u.draws = v.draws
      | _, _ => False
    | _ => False := by
  exact ⟨rfl, rfl⟩

/-- A WRDONE waits at the port, with its write in flight. -/
def withWrdone : State := { fresh with inflight := [0], nextTag := 1, port := [⟨0x03, none, true, 0⟩] }

theorem witness_StepRunsTheDecodedCommand :
    withWrdone.driving = false ∧ withWrdone.port = ⟨0x03, none, true, 0⟩ :: [] ∧
      decodeRequest ⟨0x03, none, true, 0⟩ = .ok (.wrdone 0 true) := by
  refine ⟨by decide, by decide, ?_⟩
  rfl

theorem witness_DriveRunsTheDecodedFrame :
    let s : State := { fresh with buf := [0x81, 0x00], driving := true }
    s.pstate = .awaitingHeader ∧ s.buf = 0x81 :: 0x00 :: [] ∧ s.driving = true := by decide

theorem witness_IdleBlockHoldsItsState : fresh.driving = false ∧ fresh.port = [] := by decide

/-- A failed decoder with its Fail event, at which an INGEST waits. -/
def failedOnce : State := { fresh with
  failed := true, events := [.fail .closeOneByte ""], port := [⟨0x00, some [], false, 0⟩] }

theorem witness_invariants :
    failedOnce.Inv ∧ failedOnce.failCount = 1 ∧ failedOnce.failed = true ∧
      (∀ e ∈ failedOnce.events, e.dispatchAllowed = true) ∧
      writeTags failedOnce.events = List.range failedOnce.nextTag ∧ ∃ t, step failedOnce = .next t := by
  refine ⟨by unfold State.Inv; decide, by decide, by decide, by decide, by decide, ?_⟩
  have h : nextHas (step failedOnce) (fun _ => true) = true := by decide
  obtain ⟨t, ht, -⟩ := nextHas_exists h
  exact ⟨t, ht⟩

/-- A life of one instance that ends in a Fail. -/
theorem witness_FailIsSignalledOnce_life :
    nextHas (Sys2Proof.core.run 2 { State.reset with
      port := [⟨0x00, some [0x88, 0x01], false, 0⟩, ⟨0x00, some [0x88, 0x01], false, 0⟩] })
      (fun t => decide (t.failCount = 1)) = true := by decide

theorem witness_ConnectionFlagsAreNeverCleared :
    nextHas (exec (.wrdone 0 true) withWrdone) (fun t => t.sentClose) = true := by decide

theorem witness_StepIsStuckOnlyOverTheCap :
    ({ full with port := [⟨0x00, some [0x6C, 0x6C, 0x6F], false, 0⟩] } : State).Inv ∧
      step { full with port := [⟨0x00, some [0x6C, 0x6C, 0x6F], false, 0⟩] } = .fault .bufferOverflow := by
  refine ⟨by unfold State.Inv; decide, ?_⟩
  rfl

end Sys2Proof.Tests
end

namespace Sys2Proof.Machine

/-! ### Scope: the big-endian numbers of R11 and the transaction of R3 -/

@[simp] theorem beNat_nil : beNat [] = 0 := rfl

/-- The first byte is the most significant one (R11). -/
theorem beNat_cons (b : Byte) (bs : Bytes) :
    beNat (b :: bs) = b.toNat * 256 ^ bs.length + beNat bs := by
  have single : beNat [b] = b.toNat := by simp [beNat]
  rw [← List.singleton_append, beNat_append, single]

/-- Settles O6: two bytes fit in 16 bits and eight in 64, so each field is the number `beNat` of its
bytes, which unrolls byte by byte into the sum of R11. -/
theorem bigEndianFields : Obligations.BigEndianFields := by
  intro b0 b1 b2 b3 b4 b5 b6 b7
  constructor
  · rw [be16_toNat _ rfl]
    simp [beNat_cons]
  · rw [be64_toNat _ rfl]
    simp [beNat_cons, Nat.add_assoc]

/-- Settles O45: with no drive loop running and a request that decodes, only the branch of `step` that
runs the decoded instruction is left. -/
theorem stepRunsTheDecodedCommand : Obligations.StepRunsTheDecodedCommand := by
  intro s r rest i hidle hport hdecode
  simp [step, hidle, hport, hdecode]

end Sys2Proof.Machine

namespace Sys2Proof.Machine

/-! ### State: what a parser step, a pass of the drive loop and a command can answer -/

/-- PayloadStep leaves the state, or dispatches the frame whose fields are written (R143). -/
theorem payloadStep_ok_cases {s t : State} {r : StepResult} (h : payloadStep s = .ok (t, r)) :
    t = s ∨ ∃ op len, s.fOp = some op ∧ s.fLen = some len ∧ len.toNat ≤ s.count ∧
      t = dispatched op (s.memRead 0 len.toNat) (s.buf.drop len.toNat) s := by
  cases ho : s.fOp with
  | none => simp [payloadStep, ho] at h
  | some op =>
    cases hl : s.fLen with
    | none => simp [payloadStep, ho, hl] at h
    | some len =>
      rcases payloadStep_eq s op len ho hl with ⟨-, he⟩ | ⟨hlen, he⟩
      · exact .inl (by simp_all)
      · exact .inr ⟨op, len, rfl, rfl, hlen, by simp_all⟩

/-- The second step runs where the first made progress; otherwise the first one's answer stands. -/
theorem andThen_ok_cases {p : Parsed} {f : State → Parsed} {t : State} {r : StepResult}
    (h : andThen p f = .ok (t, r)) :
    p = .ok (t, r) ∨ ∃ u, p = .ok (u, .progress) ∧ f u = .ok (t, r) := by
  unfold andThen at h
  split at h
  · exact .inr ⟨_, rfl, h⟩
  · exact .inl h

/-- An echo is one frame under the next tag, where ECHO_NO_CODE is not given after one more draw (R209,
R211). -/
theorem echo_eq_writeEcho (code : Option (BitVec 16)) (s : State) :
    ∃ p u, (u = s ∨ u = s.drawn) ∧ echo code s = writeEcho p u := by
  unfold echo
  split
  · exact ⟨_, s, .inl rfl, rfl⟩
  · split
    · exact ⟨_, s, .inl rfl, rfl⟩
    · exact ⟨_, s.drawn, .inr rfl, rfl⟩

/-- INGEST changes nothing after a failure; otherwise the chunk is within the cap and the drive loop
runs (R130, R146, R147). -/
theorem execIngest_next_cases {chunk : Bytes} {sc : Bool} {s t : State}
    (h : execIngest chunk sc s = .next t) :
    (s.failed = true ∧ t = s) ∨
    (s.failed = false ∧ overCap chunk s = false ∧
      drive (driveFuel (beginIngest chunk sc s)) (beginIngest chunk sc s) = .next t) := by
  cases hf : s.failed with
  | true => exact .inl ⟨rfl, by simp_all [execIngest]⟩
  | false =>
    cases hc : overCap chunk s with
    | true => simp [execIngest, hf, hc] at h
    | false => exact .inr ⟨rfl, rfl, by rwa [execIngest_drives chunk sc s hf hc] at h⟩

/-- An ENCODE that is not refused puts out one frame and draws once (R100, R105). -/
theorem execEncode_next {op : Opcode} {payload : Option Bytes} {s t : State}
    (h : execEncode op payload s = .next t) :
    ∃ frame, t = (s.emit (.encOut frame)).encodeDrawn := by
  unfold execEncode at h
  dsimp only at h
  split at h
  · cases h
  · cases h
    exact ⟨_, rfl⟩

/-- WRDONE changes nothing, or removes the tag and, where the write went well, sets sentClose (R212,
R213). -/
theorem execWrdone_next_cases {tag : Nat} {ok : Bool} {s t : State}
    (h : execWrdone tag ok s = .next t) :
    t = s ∨ t = { s with inflight := removeTag tag s.inflight } ∨
      t = State.writeSentClose { s with inflight := removeTag tag s.inflight } := by
  unfold execWrdone at h
  split at h
  · cases ok <;> cases h
    · exact .inr (.inl rfl)
    · exact .inr (.inr rfl)
  · cases h
    exact .inl rfl

/-- The port's words are the five commands (R86): no request decodes to a frame. -/
theorem decodeRequest_cases {r : Request} {i : Instr} (h : decodeRequest r = .ok i) :
    (∃ chunk sc, i = .ingest chunk sc) ∨ (∃ op payload, i = .encode op payload) ∨
    (∃ body, i = .cbdFull body) ∨ (∃ body, i = .cbdCode body) ∨ ∃ tag ok, i = .wrdone tag ok := by
  unfold decodeRequest at h
  split_ifs at h <;> cases h <;> simp

/-- A step is a pass of a running drive loop, nothing at an empty port, or the oldest command (R3, R56,
R246). -/
theorem step_next_cases {s t : State} (h : step s = .next t) :
    drivePass s = .next t ∨ t = s ∨
    ∃ r rest i, s.port = r :: rest ∧ decodeRequest r = .ok i ∧
      exec i { s with port := rest } = .next t := by
  unfold step at h
  split at h
  · exact .inl h
  · split at h
    · cases h
      exact .inr (.inl rfl)
    · next r rest hport =>
      split at h
      · next i hi => exact .inr (.inr ⟨r, rest, i, hport, hi, h⟩)
      · cases h

/-- An instruction is a frame, read from the four bits of its opcode (R78), or one of the five commands
(R86). -/
theorem instr_cases {C : Instr → Prop}
    (frame : ∀ op fin rsv mask len7, C (frameInstr op fin rsv mask len7))
    (ingest : ∀ chunk sc, C (.ingest chunk sc)) (encode : ∀ op payload, C (.encode op payload))
    (cbdFull : ∀ body, C (.cbdFull body)) (cbdCode : ∀ body, C (.cbdCode body))
    (wrdone : ∀ tag ok, C (.wrdone tag ok)) (i : Instr) : C i := by
  cases i with
  | continuation fin rsv mask len7 => exact frame 0x0 fin rsv mask len7
  | text fin rsv mask len7 => exact frame 0x1 fin rsv mask len7
  | binary fin rsv mask len7 => exact frame 0x2 fin rsv mask len7
  | reserved3 fin rsv mask len7 => exact frame 0x3 fin rsv mask len7
  | reserved4 fin rsv mask len7 => exact frame 0x4 fin rsv mask len7
  | reserved5 fin rsv mask len7 => exact frame 0x5 fin rsv mask len7
  | reserved6 fin rsv mask len7 => exact frame 0x6 fin rsv mask len7
  | reserved7 fin rsv mask len7 => exact frame 0x7 fin rsv mask len7
  | close fin rsv mask len7 => exact frame 0x8 fin rsv mask len7
  | ping fin rsv mask len7 => exact frame 0x9 fin rsv mask len7
  | pong fin rsv mask len7 => exact frame 0xA fin rsv mask len7
  | reservedB fin rsv mask len7 => exact frame 0xB fin rsv mask len7
  | reservedC fin rsv mask len7 => exact frame 0xC fin rsv mask len7
  | reservedD fin rsv mask len7 => exact frame 0xD fin rsv mask len7
  | reservedE fin rsv mask len7 => exact frame 0xE fin rsv mask len7
  | reservedF fin rsv mask len7 => exact frame 0xF fin rsv mask len7
  | ingest chunk sc => exact ingest chunk sc
  | encode op payload => exact encode op payload
  | cbdFull body => exact cbdFull body
  | cbdCode body => exact cbdCode body
  | wrdone tag ok => exact wrdone tag ok

/-- Executing a decoded frame is running it (R78). -/
theorem exec_frameInstr (op : Opcode) (fin : Bool) (rsv : BitVec 3) (mask : Bool) (len7 : BitVec 7)
    (s : State) : exec (frameInstr op fin rsv mask len7) s = runFrame op fin rsv mask len7 s := by
  revert op
  refine opcode_cases _ ?_ ?_ ?_ ?_ ?_ ?_ ?_ ?_ ?_ ?_ ?_ ?_ ?_ ?_ ?_ ?_ <;> rfl

/-- No header word is an INGEST (R78). -/
theorem frameInstr_ne_ingest (op : Opcode) (fin : Bool) (rsv : BitVec 3) (mask : Bool)
    (len7 : BitVec 7) (chunk : Bytes) (sc : Bool) :
    frameInstr op fin rsv mask len7 ≠ .ingest chunk sc := by
  unfold frameInstr
  split <;> simp

/-! ### State: a predicate kept by the named updates is kept by every step -/

/-- `P` is kept by every update a parser step makes, each under what the step has checked by then (R133
to R143, R205 to R211). -/
structure ParserKeeps (P : State → Prop) : Prop where
  consume : ∀ s n, P s → P (s.consume n)
  enterFrame : ∀ s op fin len7, s.pstate = .awaitingHeader → op ≠ 0x8 →
    headerCheck op fin len7 = none → P s → P (enterFrame op fin len7 s)
  takeLength : ∀ s n len,
    s.pstate = .awaitingExtended16Length ∨ s.pstate = .awaitingExtended64Length → P s →
    P { s.consume n with fLen := some len, pstate := .awaitingPayload }
  dispatch : ∀ s op len, s.fOp = some op → s.fLen = some len → len.toNat ≤ s.count → P s →
    P (dispatched op (s.memRead 0 len.toNat) (s.buf.drop len.toNat) s)
  echo : ∀ s code, s.sentClose = false → P s → P (echo code s)
  acceptClose : ∀ s, P s → P (acceptClose s)

/-- `P` is kept by a pass of the drive loop: by the parser's updates and the loop's exits (R131, R132,
R233). -/
structure PassKeeps (P : State → Prop) : Prop extends ParserKeeps P where
  needMoreExit : ∀ s, P s → P (needMoreExit s)
  raiseFail : ∀ s c, P s → P (raiseFail c s)
  closeExit : ∀ s, P s → P (closeExit s)

/-- `P` is kept by every step: by a pass and by what the five commands write (R56, R86). -/
structure StepKeeps (P : State → Prop) : Prop extends PassKeeps P where
  takeRequest : ∀ s rest, P s → P { s with port := rest }
  beginIngest : ∀ s chunk sc, s.failed = false → overCap chunk s = false → P s →
    P (beginIngest chunk sc s)
  encOut : ∀ s frame, P s → P (s.emit (.encOut frame)).encodeDrawn
  cbdOut : ∀ s r, P s → P (s.emit (.cbdOut r))
  removeTag : ∀ s tag, P s → P { s with inflight := removeTag tag s.inflight }
  writeSentClose : ∀ s, P s → P s.writeSentClose

section Keeps

variable {P : State → Prop} {s t : State} {r : StepResult}

theorem ParserKeeps.payloadStep (K : ParserKeeps P) (hs : P s) (h : payloadStep s = .ok (t, r)) :
    P t := by
  rcases payloadStep_ok_cases h with rfl | ⟨op, len, ho, hl, hc, rfl⟩
  · exact hs
  · exact K.dispatch s op len ho hl hc hs

/-- A length step and then the payload step keep `P` where the length step does. -/
theorem ParserKeeps.andThen_payloadStep {p : Parsed} (K : ParserKeeps P)
    (hp : ∀ u q, p = .ok (u, q) → P u) (h : andThen p Machine.payloadStep = .ok (t, r)) : P t := by
  rcases andThen_ok_cases h with he | ⟨u, he, hpay⟩
  · exact hp t r he
  · exact K.payloadStep (hp u _ he) hpay

/-- The rest of a frame: the length where it is still to come, then the payload (log 15). -/
theorem ParserKeeps.frameRest (K : ParserKeeps P) (hs : P s) (h : frameRest s = .ok (t, r)) : P t := by
  unfold Machine.frameRest at h
  split at h
  · cases h
    exact hs
  · next hp =>
    refine K.andThen_payloadStep (fun u q hu => ?_) h
    rcases ext16Step_eq s with ⟨-, he⟩ | ⟨-, he⟩ <;> cases he.symm.trans hu
    · exact hs
    · exact K.takeLength s _ _ (.inl hp) hs
  · next hp =>
    refine K.andThen_payloadStep (fun u q hu => ?_) h
    rcases ext64Step_eq s with ⟨-, he⟩ | ⟨-, he⟩ <;> cases he.symm.trans hu
    · exact hs
    · exact K.takeLength s _ _ (.inr hp) hs
  · exact K.payloadStep hs h

theorem ParserKeeps.closePath {len7 : BitVec 7} (K : ParserKeeps P) (hs : P s)
    (h : closePath len7 s = .ok (t, r)) : P t := by
  have hbody : P ((s.consume 2).consume len7.toNat) := K.consume _ _ (K.consume _ _ hs)
  rcases closePath_cases len7 s with ⟨-, he⟩ | ⟨-, -, he⟩ | ⟨-, -, -, he⟩ | ⟨_, _, -, -, -, -, he⟩ |
    ⟨code, _, -, -, -, hsc, he⟩ <;> cases he.symm.trans h
  · exact hs
  · exact hs
  · exact hbody
  · exact K.acceptClose _ hbody
  · exact K.acceptClose _ (K.echo _ code hsc hbody)

/-- A frame keeps `P` where entering it does: only a frame at AwaitingHeader is entered by the drive
loop, so `henter` is left to the caller. -/
theorem ParserKeeps.checkedFrame {op : Opcode} {fin : Bool} {len7 : BitVec 7} (K : ParserKeeps P)
    (hs : P s)
    (henter : op ≠ 0x8 → headerCheck op fin len7 = none → P (Machine.enterFrame op fin len7 s))
    (h : checkedFrame op fin len7
      (if op = 0x8 then Machine.closePath len7 else dataPath op fin len7) s = .ok (t, r)) : P t := by
  unfold Machine.checkedFrame at h
  split at h
  · cases h
    exact hs
  · split at h
    · cases h
      exact hs
    · next hcheck =>
      split at h
      · exact K.closePath hs h
      · next hop => exact K.frameRest (henter hop hcheck) h

theorem PassKeeps.settle {p : Parsed} (K : PassKeeps P) (hp : ∀ u q, p = .ok (u, q) → P u)
    (h : settle p = .next t) : P t := by
  rcases settle_next_cases h with he | ⟨u, he, rfl⟩ | ⟨u, c, he, rfl⟩ | ⟨u, he, rfl⟩
  · exact hp _ _ he
  · exact K.needMoreExit u (hp _ _ he)
  · exact K.raiseFail u c (hp _ _ he)
  · exact K.closeExit u (hp _ _ he)

theorem PassKeeps.runFrame {op : Opcode} {fin : Bool} {rsv : BitVec 3} {mask : Bool} {len7 : BitVec 7}
    (K : PassKeeps P) (hs : P s)
    (henter : op ≠ 0x8 → headerCheck op fin len7 = none → P (Machine.enterFrame op fin len7 s))
    (h : runFrame op fin rsv mask len7 s = .next t) : P t := by
  rw [runFrame_eq] at h
  exact K.settle (fun _ _ he => K.checkedFrame hs henter he) h

theorem PassKeeps.drivePass (K : PassKeeps P) (hs : P s) (h : drivePass s = .next t) : P t := by
  by_cases hp : s.pstate = .awaitingHeader
  · match hb : s.buf with
    | b0 :: b1 :: rest =>
      rw [drivePass_header s b0 b1 rest hp hb] at h
      exact K.runFrame hs (fun hop hcheck => K.enterFrame s _ _ _ hp hop hcheck hs) h
    | [] | [_] =>
      rw [drivePass_short s hp (by simp [State.count, hb])] at h
      cases h
      exact K.needMoreExit s hs
  · rw [drivePass_rest s hp] at h
    exact K.settle (fun _ _ he => K.frameRest hs he) h

theorem PassKeeps.drive (K : PassKeeps P) (fuel : Nat) (hs : P s) (h : drive fuel s = .next t) :
    P t := by
  induction fuel generalizing s with
  | zero =>
    cases h
    exact hs
  | succ fuel ih =>
    cases hd : s.driving with
    | false =>
      rw [drive_stopped _ s hd] at h
      cases h
      exact hs
    | true =>
      rw [drive_succ fuel s hd] at h
      split at h
      · next u hu => exact ih (K.drivePass hs hu) h
      · cases h
      · cases h

/-- A predicate that the named updates keep is kept by every step. -/
theorem StepKeeps.step (K : StepKeeps P) (hs : P s) (h : step s = .next t) : P t := by
  rcases step_next_cases h with hpass | rfl | ⟨req, rest, i, -, hi, he⟩
  · exact K.drivePass hs hpass
  · exact hs
  · have hu : P { s with port := rest } := K.takeRequest s rest hs
    rcases decodeRequest_cases hi with ⟨chunk, sc, rfl⟩ | ⟨op, payload, rfl⟩ | ⟨body, rfl⟩ |
      ⟨body, rfl⟩ | ⟨tag, ok, rfl⟩
    · rcases execIngest_next_cases he with ⟨-, rfl⟩ | ⟨hf, hc, hd⟩
      · exact hu
      · exact K.drive _ (K.beginIngest _ chunk sc hf hc hu) hd
    · obtain ⟨frame, rfl⟩ := execEncode_next he
      exact K.encOut _ frame hu
    · cases he
      exact K.cbdOut _ _ hu
    · cases he
      exact K.cbdOut _ _ hu
    · rcases execWrdone_next_cases he with rfl | rfl | rfl
      · exact hu
      · exact K.removeTag _ tag hu
      · exact K.writeSentClose _ (K.removeTag _ tag hu)

end Keeps

/-! ### State: the invariant of a decoder (R23, R25, R27, R28, R145, R147) -/

/-- What the header checks leave of a frame in progress (R134, R135, R207). -/
theorem frameChecked_iff {s : State} {op : Opcode} (ho : s.fOp = some op) :
    s.frameChecked = true ↔ op ≠ 0x8 ∧ (s.fFin = some false → isData op = true) ∧
      (isControl op = true → ∃ len, s.fLen = some len ∧ len.toNat ≤ 125) := by
  unfold State.frameChecked
  rw [ho]
  cases s.fLen <;> simp [Config.controlMax, imp_iff_not_or, and_assoc]

/-- A header that passes its checks (R134, R135). -/
theorem headerCheck_none {op : Opcode} {fin : Bool} {len7 : BitVec 7}
    (h : headerCheck op fin len7 = none) :
    (some fin = some false → isData op = true) ∧ (isControl op = true → len7.toNat ≤ 125) := by
  rcases headerCheck_cases op fin len7 with ⟨hn, -⟩ | ⟨hn, -⟩ | ⟨-, hfin, hctl⟩
  · simp [h] at hn
  · simp [h] at hn
  · exact ⟨fun hf => hfin.resolve_left (by simpa using hf), hctl⟩

theorem tagsIssued_iff (s : State) :
    s.tagsIssued = true ↔ rising s.inflight = true ∧ ∀ u ∈ s.inflight, u < s.nextTag := by
  simp [State.tagsIssued]

theorem withinCap_iff (s : State) :
    s.withinCap = true ↔ ∀ cap, s.cfg.bufCap = some cap → s.count ≤ cap := by
  unfold State.withinCap
  split <;> simp_all

/-- A buffer that does not grow stays within the cap (R25). -/
theorem withinCap_of_count_le {s t : State} (hcfg : t.cfg = s.cfg) (hc : t.count ≤ s.count)
    (h : s.withinCap = true) : t.withinCap = true := by
  rw [withinCap_iff] at h ⊢
  exact fun cap hcap => hc.trans (h cap (hcfg ▸ hcap))

/-- The next tag is above every tag in flight, so it may join them (R27). -/
theorem tagsIssued_writeEcho {s : State} (payload : Bytes) (h : s.tagsIssued = true) :
    (writeEcho payload s).tagsIssued = true := by
  rw [tagsIssued_iff] at h ⊢
  obtain ⟨hr, hlt⟩ := h
  refine ⟨rising_insertTag _ _ hr, fun u hu => ?_⟩
  rcases (mem_insertTag _ _ _).mp hu with hu | rfl
  · exact (hlt u hu).trans (Nat.lt_succ_self _)
  · exact Nat.lt_succ_self _

theorem tagsIssued_removeTag {s : State} (tag : Nat) (h : s.tagsIssued = true) :
    State.tagsIssued { s with inflight := removeTag tag s.inflight } = true := by
  rw [tagsIssued_iff] at h ⊢
  obtain ⟨hr, hlt⟩ := h
  exact ⟨rising_removeTag _ _ hr, fun u hu => hlt u ((mem_removeTag _ _ _).mp hu).1⟩

namespace State.Inv

/-! A part of the invariant that an update does not read is the same statement before and after it, so
it is handed on as it stands. -/

variable {s : State}

theorem fLen_none (hs : s.Inv) (hp : s.pstate ≠ .awaitingPayload) : s.fLen = none := by
  have hfit := hs.1
  unfold frameFieldsFit at hfit
  split at hfit <;> simp_all

theorem consume (n : Nat) (hs : s.Inv) : (s.consume n).Inv := by
  obtain ⟨hfit, hchk, htags, hcap, hstop⟩ := hs
  exact ⟨hfit, hchk, htags, withinCap_of_count_le (s := s) rfl (by simp [count]) hcap, hstop⟩

/-- A header that passed its checks starts a frame whose fields are written as far as it says (R138,
R139). -/
theorem enterFrame {op : Opcode} {fin : Bool} {len7 : BitVec 7} (hp : s.pstate = .awaitingHeader)
    (hop : op ≠ 0x8) (hcheck : headerCheck op fin len7 = none) (hs : s.Inv) :
    (enterFrame op fin len7 s).Inv := by
  have hl : s.fLen = none := hs.fLen_none (by simp [hp])
  obtain ⟨-, -, htags, hcap, hstop⟩ := hs.consume 2
  obtain ⟨hfin, hctl⟩ := headerCheck_none hcheck
  rcases enterFrame_cases op fin len7 s with ⟨h7, he⟩ | ⟨h7, he⟩ | ⟨h7, he⟩ <;> rw [he]
  · have hlen : (len7.setWidth 64).toNat ≤ 125 := by simp; omega
    refine ⟨rfl, ?_, htags, hcap, hstop⟩
    exact (frameChecked_iff rfl).mpr ⟨hop, hfin, fun _ => ⟨_, rfl, hlen⟩⟩
  -- both extended forms: a control frame is too short for them
  all_goals
    have hnot : isControl op ≠ true := fun hc => by have := hctl hc; omega
    refine ⟨by simp [frameFieldsFit, hl], ?_, htags, hcap, hstop⟩
    exact (frameChecked_iff rfl).mpr ⟨hop, hfin, fun hc => absurd hc hnot⟩

/-- A frame that still waits for its length is no control frame, so the length may be anything (R135). -/
theorem takeLength {n : Nat} {len : BitVec 64}
    (hp : s.pstate = .awaitingExtended16Length ∨ s.pstate = .awaitingExtended64Length) (hs : s.Inv) :
    State.Inv { s.consume n with fLen := some len, pstate := .awaitingPayload } := by
  have hl : s.fLen = none := hs.fLen_none (by rcases hp with h | h <;> simp [h])
  obtain ⟨hfit, hchk, htags, hcap, hstop⟩ := hs.consume n
  have hsome : s.fFin.isSome = true ∧ s.fOp.isSome = true := by
    rcases hp with h | h <;> simp_all [frameFieldsFit]
  obtain ⟨op, ho⟩ := Option.isSome_iff_exists.mp hsome.2
  obtain ⟨hop, hfin, hctl⟩ := (frameChecked_iff (s := s.consume n) ho).mp hchk
  have hnot : isControl op ≠ true := fun hc => by
    obtain ⟨_, h, -⟩ := hctl hc
    simp [hl] at h
  refine ⟨by simp [frameFieldsFit, hsome], ?_, htags, hcap, hstop⟩
  exact (frameChecked_iff (by exact ho)).mpr ⟨hop, hfin, fun hc => absurd hc hnot⟩

theorem dispatched (op : Opcode) (payload : Bytes) (n : Nat) (hs : s.Inv) :
    (dispatched op payload (s.buf.drop n) s).Inv := by
  obtain ⟨-, -, htags, hcap, hstop⟩ := hs.consume n
  exact ⟨rfl, rfl, htags, hcap, hstop⟩

theorem writeEcho (payload : Bytes) (hs : s.Inv) : (writeEcho payload s).Inv := by
  obtain ⟨hfit, hchk, htags, hcap, hstop⟩ := hs
  exact ⟨hfit, hchk, tagsIssued_writeEcho payload htags, hcap, hstop⟩

theorem echo (code : Option (BitVec 16)) (hs : s.Inv) : (echo code s).Inv := by
  obtain ⟨payload, u, rfl | rfl, he⟩ := echo_eq_writeEcho code s <;> rw [he]
  · exact hs.writeEcho payload
  · exact writeEcho (s := s.drawn) payload hs

/-- Ending the loop keeps the invariant, whatever is emitted and drawn and whether it failed (R131). -/
theorem endDrive (events : List Event) (failed : Bool) (draws : Nat) (hs : s.Inv) :
    State.Inv { s with events := events, failed := failed, driving := false, draws := draws } := by
  obtain ⟨hfit, hchk, htags, hcap, -⟩ := hs
  exact ⟨hfit, hchk, htags, hcap, by simp [stopsOnFailure]⟩

/-- An admitted chunk fits the cap, and no loop starts after a failure (R25, R147). -/
theorem beginIngest {chunk : Bytes} (sc : Bool) (hf : s.failed = false)
    (hc : overCap chunk s = false) (hs : s.Inv) : (beginIngest chunk sc s).Inv := by
  obtain ⟨hfit, hchk, htags, -, -⟩ := hs
  refine ⟨hfit, hchk, htags, (withinCap_iff _).mpr fun cap hcap => ?_, by simp [stopsOnFailure, hf]⟩
  simpa [count] using (overCap_eq_false_iff chunk s).mp hc cap hcap

theorem removeTag (tag : Nat) (hs : s.Inv) :
    State.Inv { s with inflight := removeTag tag s.inflight } := by
  obtain ⟨hfit, hchk, htags, hcap, hstop⟩ := hs
  exact ⟨hfit, hchk, tagsIssued_removeTag tag htags, hcap, hstop⟩

/-- The updates of a step keep the invariant; those that are handed `hs` write nothing it reads. -/
theorem stepKeeps : StepKeeps State.Inv where
  consume _ n hs := hs.consume n
  enterFrame _ _ _ _ hp hop hcheck hs := hs.enterFrame hp hop hcheck
  takeLength _ _ _ hp hs := hs.takeLength hp
  dispatch _ op len _ _ _ hs := hs.dispatched op _ len.toNat
  echo _ code _ hs := hs.echo code
  acceptClose _ hs := hs
  needMoreExit s hs := hs.endDrive _ s.failed s.draws
  raiseFail _ _ hs := hs.endDrive _ true _
  closeExit s hs := closeExit_eq s ▸ hs.endDrive _ s.failed s.draws
  takeRequest _ _ hs := hs
  beginIngest _ _ sc hf hc hs := hs.beginIngest sc hf hc
  encOut _ _ hs := hs
  cbdOut _ _ hs := hs
  removeTag _ tag hs := hs.removeTag tag
  writeSentClose _ hs := hs

end State.Inv

/-- Settles O48: each named update keeps the invariant, so every step does. -/
theorem stepKeepsTheInvariant : Obligations.StepKeepsTheInvariant :=
  fun _ _ hs h => State.Inv.stepKeeps.step hs h

/-! ### State: the write tags, the failure latch and the connection's flags (R26, R27, R29, R30) -/

theorem writeTags_append (es fs : List Event) :
    writeTags (es ++ fs) = writeTags es ++ writeTags fs := by
  induction es with
  | nil => rfl
  | cons e es ih => cases e <;> simp [writeTags, ih]

/-- The echo writes one frame under the next tag (R205, R209). -/
theorem echo_events (code : Option (BitVec 16)) (s : State) :
    ∃ frame, (echo code s).events = s.events ++ [.txWrite s.nextTag frame] := by
  obtain ⟨p, u, rfl | rfl, he⟩ := echo_eq_writeEcho code s <;> rw [he] <;> exact ⟨_, rfl⟩

/-- The transport writes carry the tags handed out so far, in order (R27). -/
def State.TagsInOrder (s : State) : Prop := writeTags s.events = List.range s.nextTag

/-- Events that are no transport write leave the tags as they are. -/
theorem State.TagsInOrder.of_append {s t : State} {es : List Event} (hs : s.TagsInOrder)
    (hes : t.events = s.events ++ es) (hw : writeTags es = []) (hn : t.nextTag = s.nextTag) :
    t.TagsInOrder := by
  unfold State.TagsInOrder at hs ⊢
  rw [hes, hn, writeTags_append, hw, List.append_nil, hs]

/-- The echo's frame carries the next tag, which then is handed out. -/
theorem State.TagsInOrder.echo {s : State} (code : Option (BitVec 16)) (hs : s.TagsInOrder) :
    (echo code s).TagsInOrder := by
  obtain ⟨frame, he⟩ := echo_events code s
  unfold State.TagsInOrder at hs ⊢
  rw [he, writeTags_append, hs, echo_nextTag, List.range_succ]
  rfl

theorem writeTags_closeDone (s : State) : writeTags (closeDone s) = [] := by
  unfold closeDone
  split <;> rfl

/-- Only an echo puts out a transport write. -/
theorem State.TagsInOrder.stepKeeps : StepKeeps State.TagsInOrder where
  consume _ _ hs := hs
  enterFrame _ _ _ _ _ _ _ hs := hs.of_append (es := []) (by simp) rfl (by simp)
  takeLength _ _ _ _ hs := hs
  dispatch _ _ _ _ _ _ hs := hs.of_append rfl rfl rfl
  echo _ code _ hs := hs.echo code
  acceptClose s hs := hs.of_append ((acceptClose_events s).trans (List.append_assoc ..)) rfl rfl
  needMoreExit _ hs := hs.of_append rfl rfl rfl
  raiseFail _ _ hs := hs.of_append rfl rfl rfl
  closeExit s hs := hs.of_append (closeExit_events s) (writeTags_closeDone s) (closeExit_nextTag s)
  takeRequest _ _ hs := hs
  beginIngest _ _ _ _ _ hs := hs
  encOut _ _ hs := hs.of_append rfl rfl rfl
  cbdOut _ _ hs := hs.of_append rfl rfl rfl
  removeTag _ _ hs := hs
  writeSentClose _ hs := hs.of_append rfl rfl rfl

/-- Settles O53: the echo alone writes to the transport, under the next tag, and hands that tag out. -/
theorem writeTagsAreHandedOutInOrder : Obligations.WriteTagsAreHandedOutInOrder :=
  fun _ _ hs h => State.TagsInOrder.stepKeeps.step hs h

/-- No update but the failure writes the latch, and the failure sets it (R26, R233). -/
theorem failed_stepKeeps : StepKeeps (fun s => s.failed = true) where
  consume _ _ hs := hs
  enterFrame s op fin len7 _ _ _ hs := (enterFrame_failed s op fin len7).trans hs
  takeLength _ _ _ _ hs := hs
  dispatch _ _ _ _ _ _ hs := hs
  echo s code _ hs := (echo_failed s code).trans hs
  acceptClose _ hs := hs
  needMoreExit _ hs := hs
  raiseFail _ _ _ := rfl
  closeExit s hs := (closeExit_failed s).trans hs
  takeRequest _ _ hs := hs
  beginIngest _ _ _ _ _ hs := hs
  encOut _ _ hs := hs
  cbdOut _ _ hs := hs
  removeTag _ _ hs := hs
  writeSentClose _ hs := hs

/-- Settles O51: the latch is kept by every named update. -/
theorem failureLatchIsNeverCleared : Obligations.FailureLatchIsNeverCleared :=
  fun _ _ hs h => failed_stepKeeps.step hs h

/-- The connection's flags from `s` to `t` as the decoder may write them (R29): receivedClose only to
true, readyState only to CLOSING, sentClose not at all. -/
structure FlagsKept (s t : State) : Prop where
  receivedClose : s.receivedClose = true → t.receivedClose = true
  readyState : t.readyState = s.readyState ∨ t.readyState = .closing
  sentClose : t.sentClose = s.sentClose

/-- An update that writes no flag. -/
theorem FlagsKept.of_eq {s t u : State} (h : FlagsKept s t) (hr : u.receivedClose = t.receivedClose)
    (hy : u.readyState = t.readyState) (hc : u.sentClose = t.sentClose) : FlagsKept s u :=
  ⟨fun hs => hr.trans (h.receivedClose hs), hy ▸ h.readyState, hc.trans h.sentClose⟩

theorem FlagsKept.refl (s : State) : FlagsKept s s := ⟨id, .inl rfl, rfl⟩

/-- Entering a frame writes no flag, in whatever state the parser is. -/
theorem FlagsKept.enterFrame {s t : State} (op : Opcode) (fin : Bool) (len7 : BitVec 7)
    (h : FlagsKept s t) : FlagsKept s (enterFrame op fin len7 t) := h.of_eq (by simp) (by simp) (by simp)

/-- In the drive loop only the accepted CLOSE writes flags (R210). -/
theorem FlagsKept.passKeeps (s : State) : PassKeeps (FlagsKept s) where
  consume _ _ h := h.of_eq rfl rfl rfl
  enterFrame _ op fin len7 _ _ _ h := h.enterFrame op fin len7
  takeLength _ _ _ _ h := h.of_eq rfl rfl rfl
  dispatch _ _ _ _ _ _ h := h.of_eq rfl rfl rfl
  echo _ _ _ h := h.of_eq (by simp) (by simp) (by simp)
  acceptClose _ h := ⟨fun _ => rfl, .inr rfl, h.sentClose⟩
  needMoreExit _ h := h.of_eq rfl rfl rfl
  raiseFail _ _ h := h.of_eq rfl rfl rfl
  closeExit _ h := h.of_eq (by simp) (by simp) (by simp)

/-- Settles O56: a frame and a drive loop write flags as `FlagsKept` says, INGEST after taking its
operand as sentClose; of the other commands only WRDONE writes one, sentClose to true. -/
theorem connectionFlagsAreNeverCleared : Obligations.ConnectionFlagsAreNeverCleared := by
  intro i s t h
  induction i using instr_cases with
  | frame op fin rsv mask len7 =>
    rw [exec_frameInstr] at h
    have hk : FlagsKept s t := (FlagsKept.passKeeps s).runFrame (.refl s)
      (fun _ _ => (FlagsKept.refl s).enterFrame op fin len7) h
    exact ⟨hk.receivedClose, hk.readyState, fun _ hs => hk.sentClose.trans hs,
      fun chunk sc hi => absurd hi (frameInstr_ne_ingest op fin rsv mask len7 chunk sc)⟩
  | ingest chunk sc =>
    rcases execIngest_next_cases h with ⟨hf, rfl⟩ | ⟨-, -, hd⟩
    · simp [hf]
    · have hk := (FlagsKept.passKeeps _).drive _ (.refl (beginIngest chunk sc s)) hd
      exact ⟨hk.receivedClose, hk.readyState, fun hi => absurd rfl (hi chunk sc), fun _ _ hi _ => by
        cases hi; exact hk.sentClose⟩
  | encode op payload =>
    obtain ⟨frame, rfl⟩ := execEncode_next h
    simp
  | cbdFull body =>
    cases h
    simp
  | cbdCode body =>
    cases h
    simp
  | wrdone tag ok => rcases execWrdone_next_cases h with rfl | rfl | rfl <;> simp

/-- Settles O20: the decoder has not failed and the chunk is over the cap, which is INGEST's stuck case
(R146). -/
theorem ingestOverTheCapIsStuck : Obligations.IngestOverTheCapIsStuck := by
  intro chunk sc s cap hf hcap hlt
  have hover : overCap chunk s = true := by simpa [overCap, hcap] using hlt
  simp [exec, execIngest, hf, hover]

end Sys2Proof.Machine

namespace Sys2Proof.Machine

/-! ### Memory: no step drops an event (R57, R60, R61) -/

/-- An update that appends events. -/
theorem events_kept_of_append {s t : State} {es fs : List Event} (h : es <+: s.events)
    (ht : t.events = s.events ++ fs) : es <+: t.events :=
  ht ▸ h.trans (List.prefix_append ..)

/-- Each named update appends its events behind those that are there. -/
theorem eventsGrow_stepKeeps (es : List Event) : StepKeeps (fun s => es <+: s.events) where
  consume _ _ h := h
  enterFrame s op fin len7 _ _ _ h := (enterFrame_events s op fin len7).symm ▸ h
  takeLength _ _ _ _ h := h
  dispatch _ _ _ _ _ _ h := events_kept_of_append h rfl
  echo s code _ h := (echo_events code s).elim fun _ he => events_kept_of_append h he
  acceptClose s h := events_kept_of_append h ((acceptClose_events s).trans (List.append_assoc ..))
  needMoreExit s h := events_kept_of_append h (needMoreExit_events s)
  raiseFail s c h := events_kept_of_append h (raiseFail_events s c)
  closeExit s h := events_kept_of_append h (closeExit_events s)
  takeRequest _ _ h := h
  beginIngest _ _ _ _ _ h := h
  encOut _ _ h := events_kept_of_append h rfl
  cbdOut _ _ h := events_kept_of_append h rfl
  removeTag _ _ h := h
  writeSentClose _ h := events_kept_of_append h rfl

/-- Settles O54: the events before the step stay in front of the list at each named update. -/
theorem eventsOnlyGrow : Obligations.EventsOnlyGrow :=
  fun s _ h => (eventsGrow_stepKeeps s.events).step (List.prefix_refl _) h

/-! ### Memory: the parser steps by the state they find, and the close path after its wait -/

/-- The length read, the payload comes next (R142). -/
def takeLength (n : Nat) (len : BitVec 64) (s : State) : State :=
  { s.consume n with fLen := some len, pstate := .awaitingPayload }

/-- The shape of Ext16Step and Ext64Step: a wait for `n` bytes, or the length that `read` gives of them
(R140 to R142). -/
def lengthStep (n : Nat) (read : Bytes → BitVec 64) (s : State) : Parsed :=
  if s.count < n then .ok (s, .needMore)
  else .ok (takeLength n (read (s.memRead 0 n)) s, .progress)

section Parser

variable {s : State}

theorem payloadStep_unwritten (h : s.fOp = none ∨ s.fLen = none) :
    payloadStep s = .error .unwrittenFrameField := by
  unfold payloadStep
  split
  · simp_all
  · rfl

theorem payloadStep_waits {op : Opcode} {len : BitVec 64} (ho : s.fOp = some op)
    (hl : s.fLen = some len) (hc : s.count < len.toNat) : payloadStep s = .ok (s, .needMore) := by
  rcases payloadStep_eq s op len ho hl with ⟨-, he⟩ | ⟨hle, -⟩
  · exact he
  · omega

theorem payloadStep_dispatches {op : Opcode} {len : BitVec 64} (ho : s.fOp = some op)
    (hl : s.fLen = some len) (hc : len.toNat ≤ s.count) :
    payloadStep s =
      .ok (dispatched op (s.memRead 0 len.toNat) (s.buf.drop len.toNat) s, .progress) := by
  rcases payloadStep_eq s op len ho hl with ⟨hlt, -⟩ | ⟨-, he⟩
  · omega
  · exact he

/-- A field is unwritten, or the payload is still to come, or it has come. -/
theorem payloadStep_cases (s : State) :
    (s.fOp = none ∨ s.fLen = none) ∨ ∃ op len, s.fOp = some op ∧ s.fLen = some len ∧
      (s.count < len.toNat ∨ len.toNat ≤ s.count) := by
  cases s.fOp <;> cases s.fLen <;> simp [Nat.lt_or_ge]

theorem frameRest_header (hp : s.pstate = .awaitingHeader) : frameRest s = .ok (s, .progress) := by
  simp [frameRest, hp]

theorem frameRest_ext16 (hp : s.pstate = .awaitingExtended16Length) :
    frameRest s = andThen (lengthStep 2 (fun b => (be16 b).setWidth 64) s) payloadStep := by
  simp only [frameRest, hp]
  rfl

theorem frameRest_ext64 (hp : s.pstate = .awaitingExtended64Length) :
    frameRest s = andThen (lengthStep 8 be64 s) payloadStep := by
  simp only [frameRest, hp]
  rfl

theorem frameRest_payload (hp : s.pstate = .awaitingPayload) : frameRest s = payloadStep s := by
  simp [frameRest, hp]

/-- A buffer has fewer than two bytes, or a header at its head. -/
theorem count_cases (s : State) : s.count < 2 ∨ ∃ b0 b1 rest, s.buf = b0 :: b1 :: rest := by
  match hb : s.buf with
  | b0 :: b1 :: rest => exact .inr ⟨b0, b1, rest, rfl⟩
  | [] | [_] => exact .inl (by simp [State.count, hb])

end Parser

/-- The close path with its whole frame taken off the buffer: the answer to the decoded body (R206,
R208 to R211). -/
def closeAnswer (body : CloseBodyResult) (s : State) : Parsed :=
  match body with
  | .invalid => .ok (s, .failure .closeBodyInvalid)
  | .valid code _ => .ok (acceptClose (if s.sentClose then s else echo code s), .closeExit)

/-- The close path is the one-byte check, the wait and the answer (R204, R205). -/
theorem closePath_eq (len7 : BitVec 7) (s : State) :
    closePath len7 s =
      if len7.toNat = 1 then .ok (s, .failure .closeOneByte)
      else if s.count < 2 + len7.toNat then .ok (s, .needMore)
      else closeAnswer (closeBodyFull ((s.consume 2).memRead 0 len7.toNat))
        ((s.consume 2).consume len7.toNat) := rfl

/-! ### Memory: the parser and the drive loop read neither the events nor ENCODE's counter (R67) -/

/-- The state with `es` put out before its own events, and ENCODE's counter at `n`: what ENCODEs that
come before it leave. -/
def State.withHistory (es : List Event) (n : Nat) (s : State) : State :=
  { s with events := es ++ s.events, encodeDraws := n }

/-- A parser step's answer with its state changed. -/
def mapParsed (g : State → State) (p : Parsed) : Parsed := p.map (Prod.map g id)

/-- An instruction's answer with its next state changed. -/
def mapResult (g : State → State) : Result → Result
  | .next t => .next (g t)
  | .fault f => .fault f
  | .refused r => .refused r

@[simp] theorem mapParsed_ok (g : State → State) (t : State) (r : StepResult) :
    mapParsed g (.ok (t, r)) = .ok (g t, r) := rfl

@[simp] theorem mapParsed_error (g : State → State) (f : Fault) :
    mapParsed g (.error f) = .error f := rfl

/-- `p` answers the same after any ENCODEs, and leaves what they wrote as it is. -/
def ParserIgnoresHistory (p : State → Parsed) : Prop :=
  ∀ es n s, p (s.withHistory es n) = mapParsed (State.withHistory es n) (p s)

/-- `f` answers the same after any ENCODEs, and leaves what they wrote as it is. -/
def IgnoresHistory (f : State → Result) : Prop :=
  ∀ es n s, f (s.withHistory es n) = mapResult (State.withHistory es n) (f s)

/-- The echo commutes with a change of the state that it does not read and that its one write commutes
with. -/
theorem echo_comm {g : State → State} (hcfg : ∀ s, (g s).cfg = s.cfg)
    (hdraws : ∀ s, (g s).draws = s.draws) (hdrawn : ∀ s, (g s).drawn = g s.drawn)
    (hwrite : ∀ p s, writeEcho p (g s) = g (writeEcho p s)) (code : Option (BitVec 16)) (s : State) :
    echo code (g s) = g (echo code s) := by
  unfold echo
  rw [hcfg, hdraws, hdrawn]
  cases code with
  | some c => exact hwrite _ s
  | none =>
    cases s.cfg.echoNoCode with
    | some e => exact hwrite _ s
    | none => exact hwrite _ s.drawn

/-- The answer to a close body commutes with a change of the state that its echo and its flag writes
commute with. -/
theorem closeAnswer_comm {g : State → State} (hsent : ∀ s, (g s).sentClose = s.sentClose)
    (hecho : ∀ s code, echo code (g s) = g (echo code s))
    (haccept : ∀ s, acceptClose (g s) = g (acceptClose s)) (body : CloseBodyResult) (s : State) :
    closeAnswer body (g s) = mapParsed g (closeAnswer body s) := by
  cases body with
  | invalid => rfl
  | valid code reason =>
    unfold closeAnswer
    rw [hsent]
    cases s.sentClose with
    | true => simp [haccept]
    | false => simp [hecho, haccept]

section History

variable (es : List Event) (n : Nat) (s : State)

@[simp] theorem withHistory_count : (s.withHistory es n).count = s.count := rfl

@[simp] theorem withHistory_failed : (s.withHistory es n).failed = s.failed := rfl

@[simp] theorem withHistory_inflight : (s.withHistory es n).inflight = s.inflight := rfl

theorem emit_withHistory (e : Event) :
    (s.withHistory es n).emit e = (s.emit e).withHistory es n := by
  simp [State.withHistory, State.emit]

theorem needMoreExit_withHistory :
    needMoreExit (s.withHistory es n) = (needMoreExit s).withHistory es n := by
  simp [needMoreExit, emit_withHistory]
  rfl

theorem raiseFail_withHistory (c : FailCause) :
    raiseFail c (s.withHistory es n) = (raiseFail c s).withHistory es n := by
  simp [State.withHistory, raiseFail]

theorem closeExit_withHistory :
    closeExit (s.withHistory es n) = (closeExit s).withHistory es n := by
  simp [State.withHistory, closeExit_eq, closeDone]

theorem dispatched_withHistory (op : Opcode) (payload rest : Bytes) :
    dispatched op payload rest (s.withHistory es n) =
      (dispatched op payload rest s).withHistory es n := by
  simp [State.withHistory, dispatched]

theorem writeEcho_withHistory (payload : Bytes) :
    writeEcho payload (s.withHistory es n) = (writeEcho payload s).withHistory es n := by
  simp [State.withHistory, writeEcho]

theorem echo_withHistory (code : Option (BitVec 16)) :
    echo code (s.withHistory es n) = (echo code s).withHistory es n :=
  echo_comm (g := State.withHistory es n) (fun _ => rfl) (fun _ => rfl) (fun _ => rfl)
    (fun p s => writeEcho_withHistory es n s p) code s

theorem acceptClose_withHistory (s : State) :
    acceptClose (s.withHistory es n) = (acceptClose s).withHistory es n := by
  simp [State.withHistory, acceptClose, State.writeReadyStateClosing, State.writeReceivedClose]

theorem enterFrame_withHistory (op : Opcode) (fin : Bool) (len7 : BitVec 7) :
    enterFrame op fin len7 (s.withHistory es n) = (enterFrame op fin len7 s).withHistory es n := by
  unfold enterFrame
  dsimp only
  split
  · rfl
  · split <;> rfl

end History

theorem lengthStep_ignoresHistory (k : Nat) (read : Bytes → BitVec 64) :
    ParserIgnoresHistory (lengthStep k read) := by
  intro es n s
  unfold lengthStep
  rw [withHistory_count]
  split <;> rfl

theorem payloadStep_ignoresHistory : ParserIgnoresHistory payloadStep := by
  intro es n s
  rcases payloadStep_cases s with hn | ⟨op, len, ho, hl, hc | hc⟩
  · rw [payloadStep_unwritten hn]
    exact payloadStep_unwritten hn
  · rw [payloadStep_waits ho hl hc]
    exact payloadStep_waits ho hl hc
  · rw [payloadStep_dispatches ho hl hc, mapParsed_ok, ← dispatched_withHistory]
    exact payloadStep_dispatches ho hl hc

theorem andThen_ignoresHistory {p q : State → Parsed} (hp : ParserIgnoresHistory p)
    (hq : ParserIgnoresHistory q) : ParserIgnoresHistory (fun s => andThen (p s) q) := by
  intro es n s
  dsimp only
  rw [hp]
  match p s with
  | .ok (t, .progress) => exact hq es n t
  | .ok (_, .needMore) | .ok (_, .failure _) | .ok (_, .closeExit) | .error _ => rfl

theorem frameRest_ignoresHistory : ParserIgnoresHistory frameRest := by
  intro es n s
  cases hp : s.pstate with
  | awaitingHeader =>
    rw [frameRest_header hp, frameRest_header (s := s.withHistory es n) hp]
    rfl
  | awaitingExtended16Length =>
    rw [frameRest_ext16 hp, frameRest_ext16 (s := s.withHistory es n) hp]
    exact andThen_ignoresHistory (lengthStep_ignoresHistory _ _) payloadStep_ignoresHistory es n s
  | awaitingExtended64Length =>
    rw [frameRest_ext64 hp, frameRest_ext64 (s := s.withHistory es n) hp]
    exact andThen_ignoresHistory (lengthStep_ignoresHistory _ _) payloadStep_ignoresHistory es n s
  | awaitingPayload =>
    rw [frameRest_payload hp, frameRest_payload (s := s.withHistory es n) hp]
    exact payloadStep_ignoresHistory es n s

theorem dataPath_ignoresHistory (op : Opcode) (fin : Bool) (len7 : BitVec 7) :
    ParserIgnoresHistory (dataPath op fin len7) := by
  intro es n s
  unfold dataPath
  rw [enterFrame_withHistory, frameRest_ignoresHistory]

theorem closePath_ignoresHistory (len7 : BitVec 7) : ParserIgnoresHistory (closePath len7) := by
  intro es n s
  rw [closePath_eq, closePath_eq, withHistory_count]
  split_ifs
  · rfl
  · rfl
  · exact closeAnswer_comm (g := State.withHistory es n) (fun _ => rfl)
      (echo_withHistory es n) (acceptClose_withHistory es n) _
      ((s.consume 2).consume len7.toNat)

theorem checkedFrame_ignoresHistory {op : Opcode} {fin : Bool} {len7 : BitVec 7}
    {path : State → Parsed} (hpath : ParserIgnoresHistory path) :
    ParserIgnoresHistory (checkedFrame op fin len7 path) := by
  intro es n s
  unfold checkedFrame
  rw [withHistory_count]
  split
  · rfl
  · cases headerCheck op fin len7 with
    | some c => rfl
    | none => exact hpath es n s

theorem settle_ignoresHistory {p : State → Parsed} (hp : ParserIgnoresHistory p) :
    IgnoresHistory (fun s => settle (p s)) := by
  intro es n s
  dsimp only
  rw [hp]
  match p s with
  | .ok (t, .progress) => rfl
  | .ok (t, .needMore) => exact congrArg Host.Outcome.next (needMoreExit_withHistory es n t)
  | .ok (t, .failure c) => exact congrArg Host.Outcome.next (raiseFail_withHistory es n t c)
  | .ok (t, .closeExit) => exact congrArg Host.Outcome.next (closeExit_withHistory es n t)
  | .error _ => rfl

theorem runFrame_ignoresHistory (op : Opcode) (fin : Bool) (rsv : BitVec 3) (mask : Bool)
    (len7 : BitVec 7) : IgnoresHistory (runFrame op fin rsv mask len7) := by
  intro es n s
  rw [runFrame_eq, runFrame_eq]
  refine settle_ignoresHistory (checkedFrame_ignoresHistory ?_) es n s
  split
  · exact closePath_ignoresHistory len7
  · exact dataPath_ignoresHistory op fin len7

theorem drivePass_ignoresHistory : IgnoresHistory drivePass := by
  intro es n s
  by_cases hp : s.pstate = .awaitingHeader
  · rcases count_cases s with hc | ⟨b0, b1, rest, hb⟩
    · rw [drivePass_short s hp hc, drivePass_short (s.withHistory es n) hp hc]
      exact congrArg Host.Outcome.next (needMoreExit_withHistory es n s)
    · rw [drivePass_header s b0 b1 rest hp hb, drivePass_header (s.withHistory es n) b0 b1 rest hp hb]
      exact runFrame_ignoresHistory _ _ _ _ _ es n s
  · rw [drivePass_rest s hp, drivePass_rest (s.withHistory es n) hp]
    exact settle_ignoresHistory frameRest_ignoresHistory es n s

theorem drive_ignoresHistory (fuel : Nat) : IgnoresHistory (drive fuel) := by
  intro es n s
  induction fuel generalizing s with
  | zero => rfl
  | succ fuel ih =>
    cases hd : s.driving with
    | false =>
      rw [drive_stopped _ s hd]
      exact drive_stopped _ _ hd
    | true =>
      rw [drive_succ fuel s hd, drive_succ fuel (s.withHistory es n) hd, drivePass_ignoresHistory]
      cases drivePass s with
      | next t => exact ih t
      | fault f => rfl
      | refused r => rfl

theorem execIngest_ignoresHistory (chunk : Bytes) (sc : Bool) :
    IgnoresHistory (execIngest chunk sc) := by
  intro es n s
  have hover : overCap chunk (s.withHistory es n) = overCap chunk s := rfl
  unfold execIngest
  rw [withHistory_failed, hover]
  split_ifs
  · rfl
  · rfl
  · exact drive_ignoresHistory _ es n (beginIngest chunk sc s)

theorem execWrdone_ignoresHistory (tag : Nat) (ok : Bool) : IgnoresHistory (execWrdone tag ok) := by
  intro es n s
  unfold execWrdone
  rw [withHistory_inflight]
  split
  · cases ok with
    | true => simp [mapResult, State.withHistory, State.writeSentClose]
    | false => rfl
  · rfl

/-- Every instruction but ENCODE. -/
theorem exec_ignoresHistory {i : Instr} (hi : ∀ op payload, i ≠ .encode op payload) :
    IgnoresHistory (exec i) := by
  intro es n s
  induction i using instr_cases with
  | frame op fin rsv mask len7 =>
    rw [exec_frameInstr, exec_frameInstr]
    exact runFrame_ignoresHistory op fin rsv mask len7 es n s
  | ingest chunk sc => exact execIngest_ignoresHistory chunk sc es n s
  | encode op payload => exact absurd rfl (hi op payload)
  | cbdFull body => exact congrArg Host.Outcome.next (emit_withHistory es n s _)
  | cbdCode body => exact congrArg Host.Outcome.next (emit_withHistory es n s _)
  | wrdone tag ok => exact execWrdone_ignoresHistory tag ok es n s

/-- An answer is the answer without any history, with the state's own history put before it. -/
theorem IgnoresHistory.answer_eq {f : State → Result} (hf : IgnoresHistory f) (s : State) :
    f s = mapResult (State.withHistory s.events s.encodeDraws) (f { s with events := [] }) := by
  rw [← hf]
  simp [State.withHistory]

/-- With another history it is put before the same answer. -/
theorem IgnoresHistory.answer_other {f : State → Result} (hf : IgnoresHistory f) (s : State)
    (events : List Event) (n : Nat) :
    f { s with events := events, encodeDraws := n } =
      mapResult (State.withHistory events n) (f { s with events := [] }) := by
  rw [← hf]
  simp [State.withHistory]

/-- Settles O59: an ENCODE that is not refused only emits and draws; every other instruction gives one
answer, behind whatever history it finds. -/
theorem encodeSharesNoStateWithTheDecoder : Obligations.EncodeSharesNoStateWithTheDecoder := by
  refine ⟨fun op payload s t h => ?_, fun i s events n hi => ?_⟩
  · obtain ⟨frame, rfl⟩ := execEncode_next h
    exact ⟨frame, rfl⟩
  · have hf := exec_ignoresHistory hi
    rw [hf.answer_eq s, hf.answer_other s events n]
    cases exec i { s with events := [] } with
    | next t => exact ⟨rfl, t.events, rfl, rfl⟩
    | fault f => rfl
    | refused r => rfl

end Sys2Proof.Machine

namespace Sys2Proof.Machine

/-! ### Memory: one pass of the drive loop as one parser answer -/

/-- The answer that a pass of the drive loop settles: the frame at the head of the buffer, or the rest of
the frame in progress (log 15). -/
def parsePass (s : State) : Parsed :=
  match s.pstate with
  | .awaitingHeader =>
    match s.buf with
    | b0 :: b1 :: _ =>
      checkedFrame (opcodeOf b0) (finOf b0) (len7Of b1)
        (if opcodeOf b0 = 0x8 then closePath (len7Of b1)
          else dataPath (opcodeOf b0) (finOf b0) (len7Of b1)) s
    | _ => .ok (s, .needMore)
  | _ => frameRest s

section Pass

variable {s t : State} {r : StepResult}

theorem parsePass_short (hp : s.pstate = .awaitingHeader) (hc : s.count < 2) :
    parsePass s = .ok (s, .needMore) := by
  unfold parsePass
  rw [hp]
  match hb : s.buf with
  | b0 :: b1 :: rest => simp [State.count, hb] at hc
  | [] | [_] => rfl

theorem parsePass_header {b0 b1 : Byte} {rest : Bytes} (hp : s.pstate = .awaitingHeader)
    (hb : s.buf = b0 :: b1 :: rest) :
    parsePass s = checkedFrame (opcodeOf b0) (finOf b0) (len7Of b1)
      (if opcodeOf b0 = 0x8 then closePath (len7Of b1)
        else dataPath (opcodeOf b0) (finOf b0) (len7Of b1)) s := by
  unfold parsePass
  rw [hp, hb]

theorem parsePass_rest (hp : s.pstate ≠ .awaitingHeader) : parsePass s = frameRest s := by
  unfold parsePass
  split
  · next h => exact absurd h hp
  · rfl

theorem drivePass_eq_settle (s : State) : drivePass s = settle (parsePass s) := by
  by_cases hp : s.pstate = .awaitingHeader
  · rcases count_cases s with hc | ⟨b0, b1, rest, hb⟩
    · rw [drivePass_short s hp hc, parsePass_short hp hc]
      rfl
    · rw [drivePass_header s b0 b1 rest hp hb, runFrame_eq, parsePass_header hp hb]
  · rw [drivePass_rest s hp, parsePass_rest hp]

theorem ParserKeeps.parsePass {P : State → Prop} (K : ParserKeeps P) (hs : P s)
    (h : parsePass s = .ok (t, r)) : P t := by
  by_cases hp : s.pstate = .awaitingHeader
  · rcases count_cases s with hc | ⟨b0, b1, rest, hb⟩
    · cases (parsePass_short hp hc).symm.trans h
      exact hs
    · rw [parsePass_header hp hb] at h
      exact K.checkedFrame hs (fun hop hcheck => K.enterFrame s _ _ _ hp hop hcheck hs) h
  · rw [parsePass_rest hp] at h
    exact K.frameRest hs h

/-! ### Memory: what the parser can answer, by its result -/

theorem payloadStep_result (h : payloadStep s = .ok (t, r)) :
    r = .needMore ∨ r = .progress ∧ t.pstate = .awaitingHeader := by
  rcases payloadStep_cases s with hn | ⟨op, len, ho, hl, hc | hc⟩
  · cases (payloadStep_unwritten hn).symm.trans h
  · cases (payloadStep_waits ho hl hc).symm.trans h
    exact .inl rfl
  · cases (payloadStep_dispatches ho hl hc).symm.trans h
    exact .inr ⟨rfl, rfl⟩

theorem lengthThenPayload_result {n : Nat} {read : Bytes → BitVec 64}
    (h : andThen (lengthStep n read s) payloadStep = .ok (t, r)) :
    r = .needMore ∨ r = .progress ∧ t.pstate = .awaitingHeader := by
  unfold lengthStep at h
  split at h
  · cases h
    exact .inl rfl
  · exact payloadStep_result h

/-- The rest of a frame waits, or ends at the next header. -/
theorem frameRest_result (h : frameRest s = .ok (t, r)) :
    r = .needMore ∨ r = .progress ∧ t.pstate = .awaitingHeader := by
  cases hp : s.pstate with
  | awaitingHeader =>
    cases (frameRest_header hp).symm.trans h
    exact .inr ⟨rfl, hp⟩
  | awaitingExtended16Length =>
    rw [frameRest_ext16 hp] at h
    exact lengthThenPayload_result h
  | awaitingExtended64Length =>
    rw [frameRest_ext64 hp] at h
    exact lengthThenPayload_result h
  | awaitingPayload =>
    rw [frameRest_payload hp] at h
    exact payloadStep_result h

theorem closesAccepted_le (h : s.events <+: t.events) : s.closesAccepted ≤ t.closesAccepted :=
  h.sublist.countP_le

theorem closesAccepted_acceptClose (s : State) :
    (acceptClose s).closesAccepted = s.closesAccepted + 1 := by
  simp [State.closesAccepted]

/-- The close path waits, fails, or accepts its CLOSE. -/
theorem closePath_result {len7 : BitVec 7} (h : closePath len7 s = .ok (t, r)) :
    r = .needMore ∨ (∃ c, r = .failure c) ∨
      r = .closeExit ∧ s.closesAccepted < t.closesAccepted := by
  rcases closePath_cases len7 s with ⟨-, he⟩ | ⟨-, -, he⟩ | ⟨-, -, -, he⟩ | ⟨_, _, -, -, -, -, he⟩ |
    ⟨code, _, -, -, -, hsc, he⟩ <;> cases he.symm.trans h
  · exact .inr (.inl ⟨_, rfl⟩)
  · exact .inl rfl
  · exact .inr (.inl ⟨_, rfl⟩)
  · refine .inr (.inr ⟨rfl, ?_⟩)
    rw [closesAccepted_acceptClose]
    exact Nat.lt_succ_self _
  · refine .inr (.inr ⟨rfl, ?_⟩)
    rw [closesAccepted_acceptClose]
    have hgrow := (eventsGrow_stepKeeps s.events).echo ((s.consume 2).consume len7.toNat) code hsc
      (List.prefix_refl _)
    exact Nat.lt_succ_of_le (closesAccepted_le hgrow)

/-- A frame waits for its header, fails its checks, or goes its own path (R133, R136). -/
theorem checkedFrame_result {op : Opcode} {fin : Bool} {len7 : BitVec 7} {path : State → Parsed}
    (h : checkedFrame op fin len7 path s = .ok (t, r)) :
    r = .needMore ∨ (∃ c, r = .failure c) ∨ path s = .ok (t, r) := by
  unfold checkedFrame at h
  split at h
  · cases h
    exact .inl rfl
  · split at h
    · cases h
      exact .inr (.inl ⟨_, rfl⟩)
    · exact .inr (.inr h)

/-- From `s` to `t` the configuration stayed and the buffer did not grow. -/
def NotGrown (s t : State) : Prop := t.cfg = s.cfg ∧ t.count ≤ s.count

theorem NotGrown.of_le {s t u : State} (h : NotGrown s t) (hcfg : u.cfg = t.cfg)
    (hc : u.count ≤ t.count) : NotGrown s u :=
  ⟨hcfg.trans h.1, hc.trans h.2⟩

/-- A parser step takes bytes from the buffer and puts none there. -/
theorem NotGrown.passKeeps (s : State) : PassKeeps (NotGrown s) where
  consume _ _ h := h.of_le rfl (by simp [State.count])
  enterFrame _ _ _ _ _ _ _ h := h.of_le (by simp) (by simp [State.count])
  takeLength _ _ _ _ h := h.of_le rfl (by simp [State.count])
  dispatch _ _ _ _ _ _ h := h.of_le rfl (by simp [State.count, dispatched])
  echo _ _ _ h := h.of_le (by simp) (by simp [State.count])
  acceptClose _ h := h
  needMoreExit _ h := h
  raiseFail _ _ h := h
  closeExit _ h := h.of_le (by simp) (by simp [State.count])

/-- A bound on the passes of a drive loop: a frame takes at least two bytes from its header on, one
frame may be in progress, and one more pass ends the loop (R149). -/
def State.passBound (s : State) : Nat := s.count / 2 + if s.pstate = .awaitingHeader then 1 else 2

/-- A frame from its header to the next one takes the header's two bytes at least. -/
theorem passBound_lt_of_dataPath {op : Opcode} {fin : Bool} {len7 : BitVec 7}
    (hp : s.pstate = .awaitingHeader) (hc : 2 ≤ s.count)
    (h : dataPath op fin len7 s = .ok (t, .progress)) (ht : t.pstate = .awaitingHeader) :
    t.passBound < s.passBound := by
  have hle : t.count ≤ (enterFrame op fin len7 s).count :=
    ((NotGrown.passKeeps _).frameRest ⟨rfl, le_rfl⟩ h).2
  simp only [State.passBound, State.count, hp, ht, enterFrame_buf, List.length_drop] at hc hle ⊢
  omega

/-- The rest of a frame may take no byte, but no frame is in progress after it. -/
theorem passBound_lt_of_frameRest (hp : s.pstate ≠ .awaitingHeader)
    (h : frameRest s = .ok (t, .progress)) (ht : t.pstate = .awaitingHeader) :
    t.passBound < s.passBound := by
  have hle : t.count ≤ s.count := ((NotGrown.passKeeps s).frameRest ⟨rfl, le_rfl⟩ h).2
  simp only [State.passBound, hp, ht, if_true, if_false]
  omega

/-- What a pass can answer: it waits, fails, comes to the next header, or accepts a CLOSE. -/
theorem parsePass_result (h : parsePass s = .ok (t, r)) :
    r = .needMore ∨ (∃ c, r = .failure c) ∨ (r = .progress ∧ t.passBound < s.passBound) ∨
      r = .closeExit ∧ s.closesAccepted < t.closesAccepted := by
  by_cases hp : s.pstate = .awaitingHeader
  · rcases count_cases s with hc | ⟨b0, b1, rest, hb⟩
    · cases (parsePass_short hp hc).symm.trans h
      exact .inl rfl
    · have hc : 2 ≤ s.count := by simp [State.count, hb]
      rw [parsePass_header hp hb] at h
      rcases checkedFrame_result h with hr | hr | hpath
      · exact .inl hr
      · exact .inr (.inl hr)
      · split at hpath
        · rcases closePath_result hpath with hr | hr | hr
          · exact .inl hr
          · exact .inr (.inl hr)
          · exact .inr (.inr (.inr hr))
        · rcases frameRest_result hpath with hr | ⟨rfl, ht⟩
          · exact .inl hr
          · exact .inr (.inr (.inl ⟨rfl, passBound_lt_of_dataPath hp hc hpath ht⟩))
  · rw [parsePass_rest hp] at h
    rcases frameRest_result h with hr | ⟨rfl, ht⟩
    · exact .inl hr
    · exact .inr (.inr (.inl ⟨rfl, passBound_lt_of_frameRest hp h ht⟩))

end Pass

/-! ### Memory: the drive loop without its bound (R131, R149) -/

/-- The drive loop with the fuel INGEST gives it. -/
def driveAll (s : State) : Result := drive (driveFuel s) s

/-- The drive loop after a pass's answer. -/
def thenDrive : Result → Result
  | .next t => driveAll t
  | .fault f => .fault f
  | .refused r => .refused r

/-- A pass ends the loop or lowers the bound on the passes still to come. -/
theorem drivePass_ends_or_lowers {s t : State} (h : drivePass s = .next t) :
    t.driving = false ∨ t.passBound < s.passBound := by
  rw [drivePass_eq_settle] at h
  rcases settle_next_cases h with he | ⟨u, -, rfl⟩ | ⟨u, c, -, rfl⟩ | ⟨u, -, rfl⟩
  · rcases parsePass_result he with hr | ⟨_, hr⟩ | ⟨-, hlt⟩ | ⟨hr, -⟩
    · cases hr
    · cases hr
    · exact .inr hlt
    · cases hr
  · exact .inl rfl
  · exact .inl rfl
  · exact .inl (closeExit_driving u)

theorem passBound_pos (s : State) : 0 < s.passBound := by
  unfold State.passBound
  split <;> omega

/-- Fuel above the bound does not matter. -/
theorem drive_fuel_irrelevant {m n : Nat} {s : State} (hm : s.passBound ≤ m) (hn : s.passBound ≤ n) :
    drive m s = drive n s := by
  induction m generalizing n s with
  | zero => exact absurd (passBound_pos s) (by omega)
  | succ m ih =>
    cases n with
    | zero => exact absurd (passBound_pos s) (by omega)
    | succ n =>
      cases hd : s.driving with
      | false => rw [drive_stopped _ s hd, drive_stopped _ s hd]
      | true =>
        rw [drive_succ m s hd, drive_succ n s hd]
        cases hpass : drivePass s with
        | next t =>
          rcases drivePass_ends_or_lowers hpass with ht | hlt
          · exact (drive_stopped m t ht).trans (drive_stopped n t ht).symm
          · exact ih (by omega) (by omega)
        | fault f => rfl
        | refused r => rfl

theorem passBound_le_driveFuel (s : State) : s.passBound ≤ driveFuel s := by
  unfold State.passBound driveFuel
  split <;> omega

theorem driveAll_stopped {s : State} (h : s.driving = false) : driveAll s = .next s :=
  drive_stopped _ s h

/-- The loop of R131: a pass, and the loop again. -/
theorem driveAll_eq {s : State} (h : s.driving = true) : driveAll s = thenDrive (drivePass s) := by
  have hfuel : driveAll s = drive (driveFuel s + 1) s :=
    drive_fuel_irrelevant (passBound_le_driveFuel s) ((passBound_le_driveFuel s).trans (Nat.le_succ _))
  rw [hfuel, drive_succ _ s h]
  cases hpass : drivePass s with
  | next t =>
    rcases drivePass_ends_or_lowers hpass with ht | hlt
    · exact (drive_stopped _ t ht).trans (driveAll_stopped ht).symm
    · have := passBound_le_driveFuel s
      exact drive_fuel_irrelevant (by omega) (passBound_le_driveFuel t)
  | fault f => rfl
  | refused r => rfl

section DriveAll

variable {s t : State}

/-- The loop by the answer of its first pass (R131, R132, R233). -/
theorem driveAll_parsePass (hd : s.driving = true) :
    driveAll s = thenDrive (settle (parsePass s)) := by
  rw [driveAll_eq hd, drivePass_eq_settle]

theorem driveAll_progress (hd : s.driving = true) (h : parsePass s = .ok (t, .progress)) :
    driveAll s = driveAll t := by
  rw [driveAll_parsePass hd, h]
  rfl

theorem driveAll_needMore (hd : s.driving = true) (h : parsePass s = .ok (t, .needMore)) :
    driveAll s = .next (needMoreExit t) := by
  rw [driveAll_parsePass hd, h]
  exact driveAll_stopped rfl

theorem driveAll_failure {c : FailCause} (hd : s.driving = true)
    (h : parsePass s = .ok (t, .failure c)) : driveAll s = .next (raiseFail c t) := by
  rw [driveAll_parsePass hd, h]
  exact driveAll_stopped rfl

theorem driveAll_closeExit (hd : s.driving = true) (h : parsePass s = .ok (t, .closeExit)) :
    driveAll s = .next (closeExit t) := by
  rw [driveAll_parsePass hd, h]
  exact driveAll_stopped (closeExit_driving t)

theorem driveAll_fault {f : Fault} (hd : s.driving = true) (h : parsePass s = .error f) :
    driveAll s = .fault f := by
  rw [driveAll_parsePass hd, h]
  rfl

end DriveAll

end Sys2Proof.Machine

namespace Sys2Proof.Machine

/-! ### Memory: a parser step on a buffer that a later chunk has lengthened (R53) -/

section Append

variable (chunk : Bytes) (s : State)

@[simp] theorem append_count : (s.append chunk).count = s.count + chunk.length := by
  simp [State.count]

theorem writeEcho_append (payload : Bytes) :
    writeEcho payload (s.append chunk) = (writeEcho payload s).append chunk := rfl

theorem echo_append (code : Option (BitVec 16)) :
    echo code (s.append chunk) = (echo code s).append chunk :=
  echo_comm (g := State.append chunk) (fun _ => rfl) (fun _ => rfl) (fun _ => rfl)
    (fun p s => writeEcho_append chunk s p) code s

theorem dispatched_append (op : Opcode) (payload rest : Bytes) :
    dispatched op payload (rest ++ chunk) (s.append chunk) =
      (dispatched op payload rest s).append chunk := rfl

theorem takeLength_append {n : Nat} (len : BitVec 64) (h : n ≤ s.count) :
    takeLength n len (s.append chunk) = (takeLength n len s).append chunk := by
  unfold takeLength
  rw [consume_append n chunk s h]
  rfl

theorem enterFrame_append (op : Opcode) (fin : Bool) (len7 : BitVec 7) (h : 2 ≤ s.count) :
    enterFrame op fin len7 (s.append chunk) = (enterFrame op fin len7 s).append chunk := by
  unfold enterFrame
  rw [consume_append 2 chunk s h]
  dsimp only
  split
  · rfl
  · split <;> rfl

end Append

/-- How the answer `r` at `s` becomes `r'` with `chunk` behind the buffer: a step that waits does so
without having moved, or inside its frame, where the chunk lets it go on; any other answer does not see
the chunk. -/
inductive ReadsOn (chunk : Bytes) (s : State) (r r' : Parsed) : Prop
  | waitsInPlace (h : r = .ok (s, .needMore))
  | waitsInside (t : State) (ht : t.pstate ≠ .awaitingHeader) (h : r = .ok (t, .needMore))
      (h' : r' = frameRest (t.append chunk))
  | answers (h : ∀ t, r ≠ .ok (t, .needMore)) (h' : r' = mapParsed (State.append chunk) r)

section ReadsOn

variable {chunk : Bytes} {s : State}

theorem payloadStep_readsOn (chunk : Bytes) (s : State) :
    ReadsOn chunk s (payloadStep s) (payloadStep (s.append chunk)) := by
  rcases payloadStep_cases s with hn | ⟨op, len, ho, hl, hc | hc⟩
  · rw [payloadStep_unwritten hn, payloadStep_unwritten (s := s.append chunk) hn]
    exact .answers (by simp) rfl
  · exact .waitsInPlace (payloadStep_waits ho hl hc)
  · have hc' : len.toNat ≤ (s.append chunk).count := by rw [append_count]; omega
    have hrest : (s.append chunk).buf.drop len.toNat = s.buf.drop len.toNat ++ chunk :=
      List.drop_append_of_le_length hc
    rw [payloadStep_dispatches ho hl hc, payloadStep_dispatches (s := s.append chunk) ho hl hc',
      memRead_append _ _ _ _ (by omega), hrest, dispatched_append]
    exact .answers (by simp) rfl

/-- Where `s` has come to `u` inside a frame, the rest of the frame from `u` on decides. -/
theorem ReadsOn.of_inside {u : State} {r r' : Parsed} (hu : u.pstate ≠ .awaitingHeader)
    (h' : r' = frameRest (u.append chunk)) (h : ReadsOn chunk u r r') : ReadsOn chunk s r r' := by
  cases h with
  | waitsInPlace h => exact .waitsInside u hu h h'
  | waitsInside t ht h h' => exact .waitsInside t ht h h'
  | answers h h' => exact .answers h h'

theorem lengthThenPayload_readsOn (n : Nat) (read : Bytes → BitVec 64) (chunk : Bytes) (s : State) :
    ReadsOn chunk s (andThen (lengthStep n read s) payloadStep)
      (andThen (lengthStep n read (s.append chunk)) payloadStep) := by
  unfold lengthStep
  by_cases hc : s.count < n
  · exact .waitsInPlace (by rw [if_pos hc]; rfl)
  · have hc' : ¬ (s.append chunk).count < n := by rw [append_count]; omega
    rw [if_neg hc, if_neg hc', memRead_append _ _ _ _ (by omega), takeLength_append _ _ _ (by omega)]
    refine .of_inside (u := takeLength n (read (s.memRead 0 n)) s) (by simp [takeLength]) ?_
      (payloadStep_readsOn chunk _)
    exact (frameRest_payload rfl).symm

theorem frameRest_readsOn (chunk : Bytes) (s : State) :
    ReadsOn chunk s (frameRest s) (frameRest (s.append chunk)) := by
  cases hp : s.pstate with
  | awaitingHeader =>
    rw [frameRest_header hp, frameRest_header (s := s.append chunk) hp]
    exact .answers (by simp) rfl
  | awaitingExtended16Length =>
    rw [frameRest_ext16 hp, frameRest_ext16 (s := s.append chunk) hp]
    exact lengthThenPayload_readsOn _ _ chunk s
  | awaitingExtended64Length =>
    rw [frameRest_ext64 hp, frameRest_ext64 (s := s.append chunk) hp]
    exact lengthThenPayload_readsOn _ _ chunk s
  | awaitingPayload =>
    rw [frameRest_payload hp, frameRest_payload (s := s.append chunk) hp]
    exact payloadStep_readsOn chunk s

theorem enterFrame_inside (op : Opcode) (fin : Bool) (len7 : BitVec 7) (s : State) :
    (enterFrame op fin len7 s).pstate ≠ .awaitingHeader := by
  rcases enterFrame_cases op fin len7 s with ⟨-, he⟩ | ⟨-, he⟩ | ⟨-, he⟩ <;> rw [he] <;> simp

theorem dataPath_readsOn (op : Opcode) (fin : Bool) (len7 : BitVec 7) (h : 2 ≤ s.count) :
    ReadsOn chunk s (dataPath op fin len7 s) (dataPath op fin len7 (s.append chunk)) := by
  unfold dataPath
  rw [enterFrame_append chunk s op fin len7 h]
  exact .of_inside (enterFrame_inside op fin len7 s) rfl (frameRest_readsOn chunk _)

theorem closePath_readsOn (len7 : BitVec 7) :
    ReadsOn chunk s (closePath len7 s) (closePath len7 (s.append chunk)) := by
  rw [closePath_eq, closePath_eq]
  by_cases h1 : len7.toNat = 1
  · rw [if_pos h1, if_pos h1]
    exact .answers (by simp) rfl
  by_cases h2 : s.count < 2 + len7.toNat
  · exact .waitsInPlace (by rw [if_neg h1, if_pos h2])
  have h2' : ¬ (s.append chunk).count < 2 + len7.toNat := by rw [append_count]; omega
  have hbody : len7.toNat ≤ (s.consume 2).count := by
    simp only [State.count, State.consume_buf, List.length_drop] at h2 ⊢
    omega
  rw [if_neg h1, if_neg h2, if_neg h1, if_neg h2', consume_append 2 chunk s (by omega),
    memRead_append _ _ _ _ (by omega), consume_append _ _ _ hbody]
  refine .answers (fun t => ?_) ?_
  · cases closeBodyFull ((s.consume 2).memRead 0 len7.toNat) <;> simp [closeAnswer]
  · exact closeAnswer_comm (g := State.append chunk) (fun _ => rfl) (echo_append chunk)
      (fun _ => rfl) _ _

theorem checkedFrame_readsOn {op : Opcode} {fin : Bool} {len7 : BitVec 7} {path : State → Parsed}
    (hpath : 2 ≤ s.count → ReadsOn chunk s (path s) (path (s.append chunk))) :
    ReadsOn chunk s (checkedFrame op fin len7 path s)
      (checkedFrame op fin len7 path (s.append chunk)) := by
  unfold checkedFrame
  by_cases hc : s.count < 2
  · exact .waitsInPlace (if_pos hc)
  have hc' : ¬ (s.append chunk).count < 2 := by rw [append_count]; omega
  rw [if_neg hc, if_neg hc']
  cases headerCheck op fin len7 with
  | some c => exact .answers (by simp) rfl
  | none => exact hpath (by omega)

theorem parsePass_readsOn (chunk : Bytes) (s : State) :
    ReadsOn chunk s (parsePass s) (parsePass (s.append chunk)) := by
  by_cases hp : s.pstate = .awaitingHeader
  · rcases count_cases s with hc | ⟨b0, b1, rest, hb⟩
    · exact .waitsInPlace (parsePass_short hp hc)
    · have hb' : (s.append chunk).buf = b0 :: b1 :: (rest ++ chunk) := by simp [hb]
      rw [parsePass_header hp hb, parsePass_header (s := s.append chunk) hp hb']
      refine checkedFrame_readsOn fun hc => ?_
      split
      · exact closePath_readsOn _
      · exact dataPath_readsOn _ _ _ hc
  · rw [parsePass_rest hp, parsePass_rest (s := s.append chunk) hp]
    exact frameRest_readsOn chunk s

end ReadsOn

/-! ### Memory: a drive loop cut in two by a chunk boundary (R53, R131, R132) -/

/-- A drive loop runs and the decoder has not failed. -/
def State.Looping (s : State) : Prop := s.driving = true ∧ s.failed = false

/-- No parser step ends the loop or sets the latch: the loop's exits do (R131, R233). -/
theorem State.Looping.parserKeeps : ParserKeeps State.Looping where
  consume _ _ h := h
  enterFrame _ _ _ _ _ _ _ h := ⟨(enterFrame_driving ..).trans h.1, (enterFrame_failed ..).trans h.2⟩
  takeLength _ _ _ _ h := h
  dispatch _ _ _ _ _ _ h := h
  echo _ _ _ h := ⟨(echo_driving ..).trans h.1, (echo_failed ..).trans h.2⟩
  acceptClose _ h := h

/-- How the loop over the bytes before `chunk` ends at `u` where the loop over all of them ends at `t`:
at the same failure, or waiting at a state from which `chunk` leads on to `t`. -/
inductive EndsBefore (chunk : Bytes) (u t : State) : Prop
  | failed (hu : u.failed = true) (ht : t.failed = true) (he : t.events = u.events)
  | waiting (w : State) (hw : w.Looping) (hu : u = needMoreExit w)
      (ht : driveAll (w.append chunk) = .next t)

/-- Without an accepted CLOSE, the loop over a shorter buffer passes the same frames and ends before the
chunk that is missing. -/
theorem driveAll_endsBefore (chunk : Bytes) {s t : State} (hs : s.Looping)
    (h : driveAll (s.append chunk) = .next t) (hclose : t.closesAccepted ≤ s.closesAccepted) :
    ∃ u, driveAll s = .next u ∧ EndsBefore chunk u t := by
  induction hn : s.passBound using Nat.strong_induction_on generalizing s with
  | _ n ih =>
    have hd' : (s.append chunk).driving = true := hs.1
    cases parsePass_readsOn chunk s with
    | waitsInPlace hwait => exact ⟨_, driveAll_needMore hs.1 hwait, .waiting s hs rfl h⟩
    | waitsInside w hp hwait hgo =>
      have hw : w.Looping := State.Looping.parserKeeps.parsePass hs hwait
      have hd : (w.append chunk).driving = true := hw.1
      have hsame : driveAll (w.append chunk) = driveAll (s.append chunk) := by
        rw [driveAll_parsePass hd, driveAll_parsePass hd', hgo, parsePass_rest (by exact hp)]
      exact ⟨_, driveAll_needMore hs.1 hwait, .waiting w hw rfl (hsame.trans h)⟩
    | answers hans hgo =>
      match hr : parsePass s with
      | .error f =>
        rw [hr, mapParsed_error] at hgo
        cases (driveAll_fault hd' hgo).symm.trans h
      | .ok (w, r) =>
        rw [hr, mapParsed_ok] at hgo
        have hw : w.Looping := State.Looping.parserKeeps.parsePass hs hr
        rcases parsePass_result hr with rfl | ⟨c, rfl⟩ | ⟨rfl, hlt⟩ | ⟨rfl, hlt⟩
        · exact absurd hr (hans w)
        · cases (driveAll_failure hd' hgo).symm.trans h
          exact ⟨_, driveAll_failure hs.1 hr, .failed rfl rfl rfl⟩
        · have hgrow : s.closesAccepted ≤ w.closesAccepted := closesAccepted_le
            ((eventsGrow_stepKeeps s.events).toParserKeeps.parsePass (List.prefix_refl _) hr)
          obtain ⟨u, hu, hend⟩ := ih w.passBound (hn ▸ hlt) hw
            ((driveAll_progress hd' hgo).symm.trans h) (hclose.trans hgrow) rfl
          exact ⟨u, (driveAll_progress hs.1 hr).trans hu, hend⟩
        · cases (driveAll_closeExit hd' hgo).symm.trans h
          have hle : w.closesAccepted ≤ (closeExit (w.append chunk)).closesAccepted :=
            closesAccepted_le ⟨_, (closeExit_events (w.append chunk)).symm⟩
          omega

/-- A chunk fits behind a buffer that did not grow (R25). -/
theorem NotGrown.admits {s t : State} {chunk : Bytes} (h : NotGrown s t) (hs : s.admits chunk) :
    t.admits chunk := by
  intro cap hcap
  have := hs cap (h.1 ▸ hcap)
  have := h.2
  simp only [State.count] at this
  omega

/-- INGEST of an admitted chunk is the drive loop (R130). -/
theorem exec_ingest_eq {chunk : Bytes} {sc : Bool} {s : State} (hf : s.failed = false)
    (ha : s.admits chunk) : exec (.ingest chunk sc) s = driveAll (beginIngest chunk sc s) :=
  execIngest_drives chunk sc s hf ((overCap_eq_false_iff chunk s).mpr ha)

theorem admits_of_admits_append {a b : Bytes} {s : State} (h : s.admits (a ++ b)) : s.admits a := by
  intro cap hcap
  have := h cap hcap
  rw [List.length_append] at this
  omega

/-- Behind the first part of a chunk that is admitted there is room for the second (R25). -/
theorem admits_beginIngest {a b : Bytes} {sc : Bool} {s : State} (h : s.admits (a ++ b)) :
    (beginIngest a sc s).admits b := by
  intro cap hcap
  have := h cap hcap
  simp only [beginIngest_buf, List.length_append] at this ⊢
  omega

theorem beginIngest_append (a b : Bytes) (sc : Bool) (s : State) :
    beginIngest (a ++ b) sc s = (beginIngest a sc s).append b := by
  simp [beginIngest, State.append]

/-- The next INGEST finds the waiting loop's state with one Done more. -/
theorem beginIngest_needMoreExit {w : State} (hw : w.driving = true) (chunk : Bytes) :
    beginIngest chunk w.sentClose (needMoreExit w) =
      { w.append chunk with events := w.events ++ [.done] } := by
  simp [beginIngest, needMoreExit, State.append, State.emit, State.stopDrive, hw]

/-- A drive loop that finds other events in the list puts its own behind those, and does the same. -/
theorem driveAll_otherEvents {s t : State} (h : driveAll s = .next t) (events : List Event) :
    ∃ new, t.events = s.events ++ new ∧
      driveAll { s with events := events } = .next { t with events := events ++ new } := by
  have hf := drive_ignoresHistory (driveFuel s)
  have h0 := hf.answer_eq s
  have h1 := hf.answer_other s events s.encodeDraws
  cases hu : drive (driveFuel s) { s with events := [] } with
  | next u =>
    rw [hu] at h0 h1
    cases h0.symm.trans h
    exact ⟨u.events, rfl, h1⟩
  | fault f =>
    rw [hu] at h0
    cases h0.symm.trans h
  | refused r =>
    rw [hu] at h0
    cases h0.symm.trans h

/-- Settles O25: the loop over the first part either failed, and the second INGEST is ignored (R147), or
waits with a Done more in its events, and the second INGEST goes on as the loop over the whole chunk did. -/
theorem chunkingDoesNotChangeTheEvents : Obligations.ChunkingDoesNotChangeTheEvents := by
  intro a b sc s t hf hadm h hclose
  rw [exec_ingest_eq hf hadm, beginIngest_append] at h
  obtain ⟨u, hu, hend⟩ := driveAll_endsBefore b (s := beginIngest a sc s) ⟨rfl, hf⟩ h hclose.le
  have ha : exec (.ingest a sc) s = .next u := (exec_ingest_eq hf (admits_of_admits_append hadm)).trans hu
  cases hend with
  | failed hfu hft he =>
    refine ⟨u, u, ha, by simp [exec, execIngest, hfu], ?_, hfu.trans hft.symm, fun ht => ?_⟩
    · rw [State.eventsButDone, State.eventsButDone, he]
    · rw [hft] at ht
      cases ht
  | waiting w hw hwait hrest =>
    subst hwait
    have hsent : w.sentClose = sc :=
      ((FlagsKept.passKeeps _).drive _ (.refl (beginIngest a sc s)) hu).sentClose
    have hroom : (needMoreExit w).admits b :=
      ((NotGrown.passKeeps _).drive _ ⟨rfl, le_rfl⟩ hu).admits (admits_beginIngest hadm)
    obtain ⟨new, hnew, hv⟩ := driveAll_otherEvents hrest (w.events ++ [.done])
    refine ⟨_, { t with events := w.events ++ [.done] ++ new }, ha, ?_, ?_, rfl, fun _ => rfl⟩
    · rw [exec_ingest_eq (s := needMoreExit w) hw.2 hroom, ← hsent, beginIngest_needMoreExit hw.1, hv]
    · simp [State.eventsButDone, hnew, Event.isDone]

end Sys2Proof.Machine

namespace Sys2Proof.Machine

/-! ### Encoding: the header word and its fields (R70, R78) -/

section Header

variable (op : Opcode) (fin : Bool) (rsv : BitVec 3) (mask : Bool) (len7 : BitVec 7)

/-- Byte 0 from its fields, as `encodeHeader` writes it (R70). -/
def headerByte0 : Byte := BitVec.ofBool fin ++ rsv ++ op

/-- Byte 1 from its fields, as `encodeHeader` writes it (R70). -/
def headerByte1 : Byte := BitVec.ofBool mask ++ len7

theorem encodeHeader_eq : encodeHeader op fin rsv mask len7 =
    .frame (headerByte0 op fin rsv) (headerByte1 mask len7) := rfl

@[simp] theorem finOf_headerByte0 : finOf (headerByte0 op fin rsv) = fin := by
  change (BitVec.ofBool fin ++ rsv ++ op).getLsbD 7 = fin
  rw [BitVec.getLsbD_append, BitVec.getLsbD_append]
  simp

@[simp] theorem rsvOf_headerByte0 : rsvOf (headerByte0 op fin rsv) = rsv :=
  (BitVec.extractLsb'_append_eq_of_le le_rfl).trans BitVec.extractLsb'_append_eq_right

@[simp] theorem opcodeOf_headerByte0 : opcodeOf (headerByte0 op fin rsv) = op :=
  BitVec.extractLsb'_append_eq_right

@[simp] theorem maskOf_headerByte1 : maskOf (headerByte1 mask len7) = mask := by
  change (BitVec.ofBool mask ++ len7).getLsbD 7 = mask
  rw [BitVec.getLsbD_append]
  simp

@[simp] theorem len7Of_headerByte1 : len7Of (headerByte1 mask len7) = len7 :=
  BitVec.extractLsb'_append_eq_right

/-- One bit of a byte is a field of width 1, so that adjacent fields join. -/
theorem ofBool_getLsbD (b : Byte) (i : Nat) : BitVec.ofBool (b.getLsbD i) = b.extractLsb' i 1 := by
  have ofBool_beq : ∀ x : BitVec 1, BitVec.ofBool (x == 1#1) = x := by decide
  rw [BitVec.getLsbD_eq_extractLsb', ofBool_beq]

/-- FIN, RSV and OPCODE are adjacent and cover byte 0. -/
@[simp] theorem headerByte0_fields (b0 : Byte) :
    headerByte0 (opcodeOf b0) (finOf b0) (rsvOf b0) = b0 := by
  have hfin : BitVec.ofBool (finOf b0) ++ rsvOf b0 = b0.extractLsb' 4 (1 + 3) := by
    rw [finOf, ofBool_getLsbD]
    exact BitVec.extractLsb'_append_extractLsb'_eq_extractLsb' rfl
  rw [headerByte0, hfin]
  exact BitVec.extractLsb'_append_extractLsb' (w := 4) (len := 4)

/-- MASK and LEN7 are adjacent and cover byte 1. -/
@[simp] theorem headerByte1_fields (b1 : Byte) : headerByte1 (maskOf b1) (len7Of b1) = b1 := by
  rw [headerByte1, maskOf, ofBool_getLsbD]
  exact BitVec.extractLsb'_append_extractLsb' (w := 1) (len := 7)

/-- Each row of the opcode map is written with its own opcode (R78). -/
theorem encode_frameInstr :
    encode (frameInstr op fin rsv mask len7) = encodeHeader op fin rsv mask len7 := by
  revert op
  refine opcode_cases _ ?_ ?_ ?_ ?_ ?_ ?_ ?_ ?_ ?_ ?_ ?_ ?_ ?_ ?_ ?_ ?_ <;> rfl

theorem decode_encodeHeader :
    decode (encodeHeader op fin rsv mask len7) = .ok (frameInstr op fin rsv mask len7) := by
  simp [encodeHeader_eq, decode, decodeHeader]

end Header

/-- The rows of `allFrames` are the opcode map of R78. -/
theorem frameInstr_of_mem_allFrames {p : Opcode × (Bool → BitVec 3 → Bool → BitVec 7 → Instr)}
    (hp : p ∈ allFrames) : p.2 = frameInstr p.1 := by
  simp only [allFrames, dataFrames, reservedFrames, pingPongFrames, closeFrames, List.cons_append,
    List.nil_append, List.mem_cons, List.not_mem_nil, or_false] at hp
  rcases hp with rfl | rfl | rfl | rfl | rfl | rfl | rfl | rfl | rfl | rfl | rfl | rfl | rfl | rfl |
    rfl | rfl <;> rfl

/-! ### Encoding: the command word (R86) -/

theorem decodeRequest_ingest (chunk : Bytes) (flag : Bool) (tag : Nat) :
    decodeRequest ⟨0x00, some chunk, flag, tag⟩ = .ok (.ingest chunk flag) := rfl

theorem decodeRequest_encode (op : Opcode) (payload : Option Bytes) (flag : Bool) (tag : Nat) :
    decodeRequest ⟨op ++ 0x1#4, payload, flag, tag⟩ = .ok (.encode op payload) := by
  have hlow : (op ++ 0x1#4).extractLsb' 0 4 = 0x1#4 := BitVec.extractLsb'_append_eq_right
  have hop : (op ++ 0x1#4).extractLsb' 4 4 = op := BitVec.extractLsb'_append_eq_left
  have hcw : op ++ 0x1#4 ≠ 0#8 := fun h => by simp [h] at hlow
  simp [decodeRequest, hlow, hop, hcw]

theorem decodeRequest_cbdFull (body : Bytes) (flag : Bool) (tag : Nat) :
    decodeRequest ⟨0x02, some body, flag, tag⟩ = .ok (.cbdFull body) := rfl

theorem decodeRequest_cbdCode (body : Bytes) (flag : Bool) (tag : Nat) :
    decodeRequest ⟨0x06, some body, flag, tag⟩ = .ok (.cbdCode body) := rfl

theorem decodeRequest_wrdone (bytes : Option Bytes) (flag : Bool) (tag : Nat) :
    decodeRequest ⟨0x03, bytes, flag, tag⟩ = .ok (.wrdone tag flag) := rfl

theorem decodeRequest_unknown {r : Request} (hingest : r.cw ≠ 0x00)
    (hencode : r.cw.extractLsb' 0 4 ≠ 0x1) (hfull : r.cw ≠ 0x02) (hcode : r.cw ≠ 0x06)
    (hwrdone : r.cw ≠ 0x03) : decodeRequest r = .error (.unknownCommandWord r.cw) := by
  rw [decodeRequest, if_neg hingest, if_neg hencode, if_neg hfull, if_neg hcode, if_neg hwrdone]

/-- Settles O1: a frame's fields come back from the two header bytes (R70), and every command word is
its own row's (R86). -/
theorem decodeInvertsEncode : Obligations.DecodeInvertsEncode := by
  refine instr_cases (fun op fin rsv mask len7 => ?_) (fun chunk sc => ?_) (fun op payload => ?_)
    (fun body => ?_) (fun body => ?_) (fun tag ok => ?_)
  · rw [encode_frameInstr, decode_encodeHeader]
  · exact decodeRequest_ingest chunk sc 0
  · exact decodeRequest_encode op payload false 0
  · exact decodeRequest_cbdFull body false 0
  · exact decodeRequest_cbdCode body false 0
  · exact decodeRequest_wrdone none ok tag

/-- Settles O2: the encoder writes the five fields that the decoder took, and they cover both bytes. -/
theorem encodeInvertsHeaderDecode : Obligations.EncodeInvertsHeaderDecode := by
  intro b0 b1
  rw [decodeHeader, encode_frameInstr, encodeHeader_eq, headerByte0_fields, headerByte1_fields]

/-! ### Encoding: the header word as the number HW = byte0 * 256 + byte1 (R70) -/

theorem extractLsb'_ofNat {n start len : Nat} (x : Nat) (h : start + len ≤ n) :
    (BitVec.ofNat n x).extractLsb' start len = BitVec.ofNat len (x / 2 ^ start) := by
  apply BitVec.eq_of_getLsbD_eq
  intro i hi
  have hn : i + start < n := by omega
  rw [BitVec.getLsbD_extractLsb', BitVec.getLsbD_ofNat, BitVec.getLsbD_ofNat,
    Nat.testBit_div_two_pow, Nat.add_comm start]
  simp [hi, hn]

section HeaderWord

variable (hw : Nat)

theorem finOf_headerBytes : finOf (headerBytes hw).1 = hw.testBit 15 := by
  rw [finOf, headerBytes, BitVec.getLsbD_ofNat]
  exact Nat.testBit_div_two_pow (n := 8) hw 7

theorem rsvOf_headerBytes : rsvOf (headerBytes hw).1 = BitVec.ofNat 3 (hw / 2 ^ 12) := by
  rw [rsvOf, headerBytes, extractLsb'_ofNat _ (by decide), Nat.div_div_eq_div_mul]
  rfl

theorem opcodeOf_headerBytes : opcodeOf (headerBytes hw).1 = BitVec.ofNat 4 (hw / 2 ^ 8) := by
  rw [opcodeOf, headerBytes, extractLsb'_ofNat _ (by decide), Nat.div_div_eq_div_mul]
  rfl

theorem maskOf_headerBytes : maskOf (headerBytes hw).2 = hw.testBit 7 := by
  rw [maskOf, headerBytes, BitVec.getLsbD_ofNat]
  rfl

theorem len7Of_headerBytes : len7Of (headerBytes hw).2 = BitVec.ofNat 7 hw := by
  rw [len7Of, headerBytes, extractLsb'_ofNat _ (by decide), pow_zero, Nat.div_one]

theorem decodeTableWord_header :
    decodeTableWord 16 hw = some (decodeHeader (headerBytes hw).1 (headerBytes hw).2) := rfl

end HeaderWord

/-- Settles O3: each field of the two bytes is the field of HW at its place, and the row is the opcode
map's at HW[11:8]. -/
theorem headerWordFields : Obligations.HeaderWordFields := by
  intro p hp hw _ hop
  rw [decodeTableWord_header, decodeHeader, finOf_headerBytes, rsvOf_headerBytes,
    opcodeOf_headerBytes, maskOf_headerBytes, len7Of_headerBytes, hop,
    frameInstr_of_mem_allFrames hp]

/-! ### Encoding: the encoder's length bytes (R75) -/

/-- The last n bytes of a length, big-endian. -/
def lengthField (len : Nat) : Nat → Bytes
  | 0 => []
  | n + 1 => lengthByte len n :: lengthField len n

@[simp] theorem lengthField_length (len n : Nat) : (lengthField len n).length = n := by
  induction n with
  | zero => rfl
  | succ n ih => simp [lengthField, ih]

theorem beNat_lengthField (len n : Nat) : beNat (lengthField len n) = len % 256 ^ n := by
  induction n with
  | zero => simp [lengthField, Nat.mod_one]
  | succ n ih =>
    have hbyte : (lengthByte len n).toNat = len / 256 ^ n % 256 := by simp [lengthByte]
    rw [lengthField, beNat_cons, lengthField_length, ih, hbyte, Nat.mod_pow_succ, mul_comm, add_comm]

/-- A length below 256^n is the number of its n bytes. -/
theorem beNat_lengthField_of_lt {len n : Nat} (h : len < 256 ^ n) : beNat (lengthField len n) = len := by
  rw [beNat_lengthField, Nat.mod_eq_of_lt h]

theorem lengthBytes_short {len : Nat} (h : len ≤ 125) :
    lengthBytes len = [0x80 ||| BitVec.ofNat 8 len] := by
  rw [lengthBytes, if_pos h]

theorem lengthBytes_ext16 {len : Nat} (h : 125 < len) (h16 : len ≤ 65535) :
    lengthBytes len = 0xFE :: lengthField len 2 := by
  rw [lengthBytes, if_neg h.not_ge, if_pos h16]
  rfl

theorem lengthBytes_ext64 {len : Nat} (h : 65535 < len) :
    lengthBytes len = 0xFF :: 0x00 :: 0x00 :: lengthField len 6 := by
  have h125 : ¬ len ≤ 125 := by omega
  rw [lengthBytes, if_neg h125, if_neg h.not_ge]
  rfl

/-- After byte 0 the frame goes on with its length bytes (R104). -/
theorem encodeFrame_lengthBytes (op : Opcode) (p : Bytes) (key : MaskKey) {i : Nat} {b : Byte}
    (h : (lengthBytes p.length)[i]? = some b) : (encodeFrame op p key)[i + 1]? = some b := by
  obtain ⟨hi, -⟩ := List.getElem?_eq_some_iff.mp h
  simpa [encodeFrame, List.getElem?_append, hi] using h

/-- Settles O9: the length form decides the bytes after byte 0, and the extended ones are the length's
own, whose big-endian number is the length. -/
theorem encodedLengthBytes : Obligations.EncodedLengthBytes := by
  intro op p key hmax
  have byteAt := fun i b => @encodeFrame_lengthBytes op p key i b
  refine ⟨fun h => ?_, fun h h16 => ?_, fun h => ?_⟩
  · rw [lengthBytes_short h] at byteAt
    exact byteAt 0 _ rfl
  · have hnum : beNat (lengthField p.length 2) = p.length := beNat_lengthField_of_lt (by omega)
    rw [lengthBytes_ext16 h h16] at byteAt
    exact ⟨byteAt 0 _ rfl, _, _, byteAt 1 _ rfl, byteAt 2 _ rfl,
      by simpa [lengthField, beNat_cons] using hnum⟩
  · have hnum : beNat (lengthField p.length 6) = p.length := beNat_lengthField_of_lt (by omega)
    rw [lengthBytes_ext64 h] at byteAt
    exact ⟨byteAt 0 _ rfl, byteAt 1 _ rfl, byteAt 2 _ rfl, _, _, _, _, _, _, byteAt 3 _ rfl,
      byteAt 4 _ rfl, byteAt 5 _ rfl, byteAt 6 _ rfl, byteAt 7 _ rfl, byteAt 8 _ rfl,
      by simpa [lengthField, beNat_cons, Nat.add_assoc] using hnum⟩

/-! ### Encoding: the port, the written-out words and the bits that are not read -/

/-- Settles O4: each row's word decodes to its command, and the step refuses what the decoder does. -/
theorem commandWordsSelectTheirCommand : Obligations.CommandWordsSelectTheirCommand := by
  refine ⟨decodeRequest_ingest, decodeRequest_encode, decodeRequest_cbdFull, decodeRequest_cbdCode,
    decodeRequest_wrdone, ?_⟩
  intro s r rest hidle hport hingest hencode hfull hcode hwrdone
  have hunknown := decodeRequest_unknown hingest hencode hfull hcode hwrdone
  simp [step, hidle, hport, hunknown]

/-- Settles O5: the decoder, evaluated on each of the ten words. -/
theorem writtenOutWordsDecode : Obligations.WrittenOutWordsDecode :=
  ⟨rfl, rfl, rfl, rfl, rfl, rfl, rfl, rfl, rfl, rfl⟩

/-- Settles O28: the meaning of a frame, as `runFrame_eq` gives it, names neither RSV nor MASK (R81,
R82). -/
theorem headerIgnoresRsvAndMask : Obligations.HeaderIgnoresRsvAndMask := by
  intro p hp fin rsv rsv' mask mask' len7 s
  rw [frameInstr_of_mem_allFrames hp, exec_frameInstr, exec_frameInstr, runFrame_eq, runFrame_eq]

end Sys2Proof.Machine

namespace Sys2Proof.Machine

/-! ### Frame encoder: masking (R106, R113) -/

section Masking

variable (key : MaskKey)

/-- XOR with a lane byte undoes itself, so masking from any index does. -/
theorem maskFrom_maskFrom (i : Nat) (p : Bytes) : maskFrom key i (maskFrom key i p) = p := by
  induction p generalizing i with
  | nil => rfl
  | cons b bs ih => simp [maskFrom, ih]

/-- The masked byte j is byte j under the lane that the index has come to. -/
theorem maskFrom_getElem? (i j : Nat) (p : Bytes) :
    (maskFrom key i p)[j]? = p[j]?.map (· ^^^ laneByte key (i + j)) := by
  induction p generalizing i j with
  | nil => rfl
  | cons b bs ih =>
    cases j with
    | zero => rfl
    | succ j => simp [maskFrom, ih, Nat.add_assoc, Nat.add_comm 1]

theorem maskPayload_getElem? (i : Nat) (p : Bytes) :
    (maskPayload key p)[i]? = p[i]?.map (· ^^^ laneByte key i) := by
  rw [maskPayload, maskFrom_getElem?, Nat.zero_add]

/-- `key[i mod 4]` with the four residues written out. -/
theorem laneByte_eq (i : Nat) :
    laneByte key i = if i % 4 = 0 then key.k0 else if i % 4 = 1 then key.k1
      else if i % 4 = 2 then key.k2 else key.k3 := by
  unfold laneByte
  split <;> simp_all

end Masking

/-- Settles O10: both passes use the same lane byte at each index. -/
theorem maskingIsAnInvolution : Obligations.MaskingIsAnInvolution :=
  fun key p => maskFrom_maskFrom key 0 p

/-! ### Frame encoder: the layout of the encoded frame (R102 to R106) -/

/-- The frame before its key: byte 0 and the length bytes (R103, R104). -/
def encodedHeader (op : Opcode) (len : Nat) : Bytes := (0x80 ||| op.setWidth 8) :: lengthBytes len

@[simp] theorem encodedHeader_length (op : Opcode) (len : Nat) :
    (encodedHeader op len).length = headerSize len := lengthBytes_length len

section Layout

variable (op : Opcode) (p : Bytes) (key : MaskKey)

theorem encodeFrame_eq :
    encodeFrame op p key = encodedHeader op p.length ++ (keyBytes key ++ maskPayload key p) := by
  simp [encodeFrame, encodedHeader]

theorem encodeFrame_length : (encodeFrame op p key).length = headerSize p.length + 4 + p.length := by
  simp [encodeFrame_eq, Nat.add_assoc]

/-- From H on the frame is the key and the masked payload. -/
theorem encodeFrame_afterHeader (i : Nat) :
    (encodeFrame op p key)[headerSize p.length + i]? = (keyBytes key ++ maskPayload key p)[i]? := by
  rw [encodeFrame_eq, List.getElem?_append_right (by simp)]
  simp

end Layout

/-- Settles O8: the header is H bytes, and the bytes after it are the key's four and the masked
payload's. -/
theorem encodedFrameLayout : Obligations.EncodedFrameLayout := by
  intro op p key _
  have byteAt := encodeFrame_afterHeader op p key
  refine ⟨encodeFrame_length op p key, rfl, byteAt 0, byteAt 1, byteAt 2, byteAt 3, fun i _ => ?_⟩
  calc (encodeFrame op p key)[headerSize p.length + 4 + i]?
    _ = (keyBytes key ++ maskPayload key p)[4 + i]? := by rw [Nat.add_assoc, byteAt]
    _ = (maskPayload key p)[i]? := by
      rw [List.getElem?_append_right (by simp), keyBytes_length, Nat.add_sub_cancel_left]
    _ = _ := by rw [maskPayload_getElem?, laneByte_eq]

/-! ### Frame encoder: the command ENCODE (R100, R108) -/

/-- ENCODE by the length it admits. -/
theorem exec_encode (op : Opcode) (payload : Option Bytes) (s : State) :
    exec (.encode op payload) s =
      if Config.encLenMax < (payload.getD []).length then .refused .payloadTooLong
      else .next { s with
        events := s.events ++
          [.encOut (encodeFrame op (payload.getD []) (Config.encodeRng4 s.encodeDraws))]
        encodeDraws := s.encodeDraws + 1 } := rfl

/-- Settles O7: an admitted length leaves the branch that emits the frame. -/
theorem encodeEmitsOneFrame : Obligations.EncodeEmitsOneFrame := by
  intro op payload s hlen
  rw [exec_encode, if_neg hlen.not_gt]

/-- Settles O11: 2^48 is above ENC_LEN_MAX. -/
theorem encodeRefusesOverlongPayload : Obligations.EncodeRefusesOverlongPayload := by
  intro op p s hlen
  have hmax : Config.encLenMax < ((some p).getD []).length := by
    simp only [Option.getD_some, Config.encLenMax]
    omega
  rw [exec_encode, if_pos hmax]

/-! ### Frame encoder: the hand-unmasked frame as header fields, length field and payload (R114) -/

theorem encodedByte0_eq (op : Opcode) : (0x80 : Byte) ||| op.setWidth 8 = headerByte0 op true 0 := by
  revert op
  decide

theorem encodedByte1_eq {len : Nat} (h : len ≤ 125) :
    (0x80 : Byte) ||| BitVec.ofNat 8 len = headerByte1 true (BitVec.ofNat 7 len) := by
  have widen : ∀ len7 : BitVec 7, (0x80 : Byte) ||| len7.setWidth 8 = headerByte1 true len7 := by
    decide
  have hlen : BitVec.ofNat 8 len = (BitVec.ofNat 7 len).setWidth 8 := by
    apply BitVec.eq_of_toNat_eq
    simp only [BitVec.toNat_ofNat, BitVec.toNat_setWidth]
    omega
  rw [hlen, widen]

theorem headerByte1_clearMask (len7 : BitVec 7) :
    headerByte1 true len7 &&& 0x7F = headerByte1 false len7 := by
  revert len7
  decide

/-- The encoder's length bytes are a header byte 1 with MASK set and the length field its LEN7 calls for;
the 7-bit form is taken exactly for the lengths it holds (R75). -/
theorem lengthBytes_fields {len : Nat} (h : len ≤ 2 ^ 48 - 1) :
    ∃ len7 ext, lengthBytes len = headerByte1 true len7 :: ext ∧ frameLength len7 ext len ∧
      (len7.toNat ≤ 125 ↔ len ≤ 125) := by
  rcases headerSize_cases len with ⟨hshort, -⟩ | ⟨hlong, h16, -⟩ | ⟨hlong, -⟩
  · have hnat : (BitVec.ofNat 7 len).toNat = len := by
      rw [BitVec.toNat_ofNat, Nat.mod_eq_of_lt (by omega)]
    refine ⟨BitVec.ofNat 7 len, [], ?_, .inl ⟨hnat.le.trans hshort, rfl, hnat.symm⟩, by rw [hnat]⟩
    rw [lengthBytes_short hshort, encodedByte1_eq hshort]
  · have hnum : (be16 (lengthField len 2)).toNat = len := by
      rw [be16_toNat _ (by simp), beNat_lengthField_of_lt (by omega)]
    exact ⟨126, _, lengthBytes_ext16 hlong h16, .inr (.inl ⟨rfl, by simp, hnum.symm⟩),
      iff_of_false (by decide) hlong.not_ge⟩
  · have hnum : (be64 (0x00 :: 0x00 :: lengthField len 6)).toNat = len := by
      rw [be64_toNat _ (by simp), beNat_cons, beNat_cons, beNat_lengthField_of_lt (by omega)]
      simp
    exact ⟨127, _, lengthBytes_ext64 hlong, .inr (.inr ⟨rfl, by simp, hnum.symm⟩),
      iff_of_false (by decide) (by omega)⟩

/-- Unmasking by hand clears MASK, drops the key and gives the payload back. -/
theorem unmaskFrame_encodeFrame (op : Opcode) (key : MaskKey) {p ext : Bytes} {len7 : BitVec 7}
    (h : lengthBytes p.length = headerByte1 true len7 :: ext) :
    unmaskFrame (headerSize p.length) (encodeFrame op p key) =
      headerByte0 op true 0 :: headerByte1 false len7 :: (ext ++ p) := by
  have hheader : encodedHeader op p.length =
      headerByte0 op true 0 :: headerByte1 true len7 :: ext := by
    rw [encodedHeader, encodedByte0_eq, h]
  have htake : (encodeFrame op p key).take (headerSize p.length) = encodedHeader op p.length := by
    rw [encodeFrame_eq]
    exact List.take_left' (encodedHeader_length op p.length)
  have hdrop : (encodeFrame op p key).drop (headerSize p.length) =
      keyBytes key ++ maskPayload key p := by
    rw [encodeFrame_eq]
    exact List.drop_left' (encodedHeader_length op p.length)
  rw [unmaskFrame, ← List.drop_drop, htake, hdrop, hheader, ← headerByte1_clearMask]
  exact congrArg (fun q => _ :: _ :: (ext ++ q)) (maskFrom_maskFrom key 0 p)

/-! ### Decoder: a frame that stands whole in the buffer (R133 to R143) -/

section WholeFrame

variable {s : State} {op : Opcode} {payload rest : Bytes}

/-- PayloadStep takes the payload that stands at the head of the buffer (R143). -/
theorem payloadStep_whole {len : BitVec 64} (ho : s.fOp = some op) (hl : s.fLen = some len)
    (hlen : len.toNat = payload.length) (hb : s.buf = payload ++ rest) :
    payloadStep s = .ok (dispatched op payload rest s, .progress) := by
  have hread : s.memRead 0 len.toNat = payload := by simp [State.memRead, hlen, hb]
  have hrest : s.buf.drop len.toNat = rest := by simp [hlen, hb]
  rw [payloadStep_dispatches ho hl (by simp [State.count, hlen, hb]), hread, hrest]

/-- An extended-length step takes its field and leaves the payload to PayloadStep (R140 to R142). -/
theorem lengthThenPayload_whole {n : Nat} {read : Bytes → BitVec 64} {ext : Bytes}
    (ho : s.fOp = some op) (hext : ext.length = n) (hlen : (read ext).toNat = payload.length)
    (hb : s.buf = ext ++ (payload ++ rest)) :
    andThen (lengthStep n read s) payloadStep = .ok (dispatched op payload rest s, .progress) := by
  have hcount : ¬ s.count < n := by simp [State.count, hb, hext]
  have hread : s.memRead 0 n = ext := by simp [State.memRead, hb, ← hext]
  rw [lengthStep, if_neg hcount, hread]
  exact payloadStep_whole (s := takeLength n (read ext) s) ho rfl hlen
    (by simp [takeLength, hb, ← hext])

/-- A dispatch writes every field that the header step wrote (R143). -/
theorem dispatched_enterFrame (fin : Bool) (len7 : BitVec 7) :
    dispatched op payload rest (enterFrame op fin len7 s) = dispatched op payload rest s := by
  rcases enterFrame_cases op fin len7 s with ⟨-, he⟩ | ⟨-, he⟩ | ⟨-, he⟩ <;> rw [he] <;> rfl

/-- The data path dispatches a whole frame, in each of the three length forms. -/
theorem dataPath_whole {b0 b1 : Byte} {ext : Bytes} {fin : Bool} {len7 : BitVec 7}
    (hlen : frameLength len7 ext payload.length) (hb : s.buf = b0 :: b1 :: (ext ++ (payload ++ rest))) :
    dataPath op fin len7 s = .ok (dispatched op payload rest s, .progress) := by
  have ho : (enterFrame op fin len7 s).fOp = some op := enterFrame_fOp ..
  have hbuf : (enterFrame op fin len7 s).buf = ext ++ (payload ++ rest) := by simp [hb]
  rw [dataPath, ← dispatched_enterFrame fin len7]
  rcases hlen with ⟨hshort, rfl, hn⟩ | ⟨rfl, hext, hn⟩ | ⟨rfl, hext, hn⟩
  · have henter : (enterFrame op fin len7 s).pstate = .awaitingPayload ∧
        (enterFrame op fin len7 s).fLen = some (len7.setWidth 64) := by
      simp [enterFrame, hshort]
    rw [frameRest_payload henter.1]
    exact payloadStep_whole ho henter.2
      ((BitVec.toNat_setWidth_of_le (by decide)).trans hn.symm) hbuf
  · rw [frameRest_ext16 rfl]
    exact lengthThenPayload_whole ho hext
      ((BitVec.toNat_setWidth_of_le (by decide)).trans hn.symm) hbuf
  · rw [frameRest_ext64 rfl]
    exact lengthThenPayload_whole ho hext hn.symm hbuf

section Pass

variable {b0 b1 : Byte} {fin : Bool} {len7 : BitVec 7} (hp : s.pstate = .awaitingHeader)
  (hop : opcodeOf b0 = op) (hfin : finOf b0 = fin) (hlen7 : len7Of b1 = len7)

include hp hop hfin hlen7

/-- A pass over a whole frame that passes its checks dispatches it. -/
theorem parsePass_whole {ext : Bytes} (hclose : op ≠ 0x8) (hcheck : headerCheck op fin len7 = none)
    (hlen : frameLength len7 ext payload.length)
    (hb : s.buf = b0 :: b1 :: (ext ++ (payload ++ rest))) :
    parsePass s = .ok (dispatched op payload rest s, .progress) := by
  have hcount : ¬ s.count < 2 := by simp [State.count, hb]
  rw [parsePass_header hp hb, hop, hfin, hlen7, checkedFrame, if_neg hcount, hcheck, if_neg hclose]
  exact dataPath_whole hlen hb

/-- A pass over a header that fails its checks leaves the state as it found it (R136). -/
theorem parsePass_headerFails {c : FailCause} (hcheck : headerCheck op fin len7 = some c)
    (hb : s.buf = b0 :: b1 :: rest) : parsePass s = .ok (s, .failure c) := by
  have hcount : ¬ s.count < 2 := by simp [State.count, hb]
  rw [parsePass_header hp hb, hop, hfin, hlen7, checkedFrame, if_neg hcount, hcheck]

end Pass

end WholeFrame

/-- Of the control opcodes PING and PONG are not CLOSE (R79). -/
theorem isControl_iff_of_ne_close {op : Opcode} (h : op ≠ 0x8) :
    isControl op = true ↔ op = 0x9 ∨ op = 0xA := by
  simp only [isControl, Bool.or_eq_true, beq_iff_eq, h, false_or]

/-- With FIN set only the control-frame cap is left of the header checks (R134, R135). -/
theorem headerCheck_fin (op : Opcode) (len7 : BitVec 7) :
    headerCheck op true len7 =
      if isControl op = true ∧ 125 < len7.toNat then some .controlTooLong else none := by
  simp [headerCheck, fragmentedControl, controlTooLong, Config.controlMax]

/-- Settles O12: the unmasked frame is a header with FIN set, the length field of LEN7 and the payload.
The decoder's first pass dispatches it and the second waits on an empty buffer, unless LEN7 breaks the
control-frame cap (C11). -/
theorem encodeDecodeRoundTrip : Obligations.EncodeDecodeRoundTrip := by
  intro op p key sc s hop hmax hp hb hf h frame hadmits
  obtain ⟨len7, ext, hbytes, hlen, hcap⟩ := lengthBytes_fields hmax
  have hframe : frame = headerByte0 op true 0 :: headerByte1 false len7 :: (ext ++ p) :=
    unmaskFrame_encodeFrame op key hbytes
  have hstart : (beginIngest frame sc s).pstate = .awaitingHeader := hp
  have hbuf : (beginIngest frame sc s).buf = frame := by simp [hb]
  have hcheck := headerCheck_fin op len7
  rw [exec_ingest_eq hf hadmits]
  refine ⟨fun hshort => ?_, fun hctl hlong => ?_⟩
  · have hpasses : ¬ (isControl op = true ∧ 125 < len7.toNat) := fun ⟨hctl, hlong⟩ =>
      hlong.not_ge (hcap.mpr (hshort ((isControl_iff_of_ne_close hop).mp hctl)))
    have hwhole : parsePass (beginIngest frame sc s) =
        .ok (dispatched op p [] (beginIngest frame sc s), .progress) :=
      parsePass_whole hstart (opcodeOf_headerByte0 ..) (finOf_headerByte0 ..) (len7Of_headerByte1 ..) hop
        (hcheck.trans (if_neg hpasses)) hlen (by rw [hbuf, hframe, List.append_nil])
    have hempty : parsePass (dispatched op p [] (beginIngest frame sc s)) =
        .ok (dispatched op p [] (beginIngest frame sc s), .needMore) :=
      parsePass_short rfl Nat.two_pos
    rw [driveAll_progress rfl hwhole, driveAll_needMore rfl hempty]
    simp [needMoreExit, dispatched, beginIngest, State.emit, State.append, State.stopDrive, hp, hb]
  · have hfails : isControl op = true ∧ 125 < len7.toNat :=
      ⟨(isControl_iff_of_ne_close hop).mpr hctl, by omega⟩
    have hpass : parsePass (beginIngest frame sc s) =
        .ok (beginIngest frame sc s, .failure .controlTooLong) :=
      parsePass_headerFails hstart (opcodeOf_headerByte0 ..) (finOf_headerByte0 ..)
        (len7Of_headerByte1 ..) (hcheck.trans (if_pos hfails)) (hbuf.trans hframe)
    refine ⟨Config.failReason s.draws, s.draws + 1, ?_⟩
    rw [driveAll_failure rfl hpass]
    simp [raiseFail, beginIngest, State.append, hb]

end Sys2Proof.Machine

namespace Sys2Proof.Machine

/-! ### Decoder: the drive loop against R131, one parser step at a time (R131, R133, R149) -/

section Reference

variable {s t : State}

theorem headerStepR133_short (hc : s.count < 2) : headerStepR133 s = .ok (s, .needMore) := by
  unfold headerStepR133
  split
  · next hb => simp [State.count, hb] at hc
  · rfl

/-- HeaderStep is the header checks, then the close path or the entry into the frame (R133). -/
theorem headerStepR133_eq {b0 b1 : Byte} {rest : Bytes} (hb : s.buf = b0 :: b1 :: rest) :
    headerStepR133 s = checkedFrame (opcodeOf b0) (finOf b0) (len7Of b1)
      (if opcodeOf b0 = 0x8 then closePath (len7Of b1)
        else fun u => .ok (enterFrame (opcodeOf b0) (finOf b0) (len7Of b1) u, .progress)) s := by
  have hcount : ¬ s.count < 2 := by simp [State.count, hb]
  unfold headerStepR133
  rw [hb, checkedFrame, if_neg hcount]
  dsimp only
  rcases headerCheck_cases (opcodeOf b0) (finOf b0) (len7Of b1) with ⟨hc, hfin, hdata⟩ |
    ⟨hc, hfin, hctl, hlong⟩ | ⟨hc, hfin, hctl⟩ <;> rw [hc]
  · rw [if_pos ⟨hfin, hdata⟩]
  · rw [if_neg (fun ⟨h1, h2⟩ => by simp [h1, h2] at hfin), if_pos ⟨hctl, hlong⟩]
  · rw [if_neg (fun ⟨h1, h2⟩ => by simp [h1, h2] at hfin),
      if_neg (fun ⟨h1, h2⟩ => (hctl h1).not_gt h2)]
    split
    · rfl
    · rcases enterFrame_cases (opcodeOf b0) (finOf b0) (len7Of b1) s with ⟨h7, he⟩ | ⟨h7, he⟩ |
        ⟨h7, he⟩ <;> simp [he, h7]

/-- What follows a frame follows its own path: a failed check ends the frame. -/
theorem andThen_checkedFrame (op : Opcode) (fin : Bool) (len7 : BitVec 7) (path q : State → Parsed)
    (s : State) : andThen (checkedFrame op fin len7 path s) q =
      checkedFrame op fin len7 (fun u => andThen (path u) q) s := by
  unfold checkedFrame
  split
  · rfl
  · cases headerCheck op fin len7 <;> rfl

/-- Nothing follows an answer that is no progress. -/
theorem andThen_of_ne_progress {p : Parsed} (q : State → Parsed) (h : ∀ u, p ≠ .ok (u, .progress)) :
    andThen p q = p := by
  unfold andThen
  split
  · next u => exact absurd rfl (h u)
  · rfl

theorem closePath_ne_progress (len7 : BitVec 7) (s u : State) :
    closePath len7 s ≠ .ok (u, .progress) := by
  intro h
  rcases closePath_result h with hr | ⟨_, hr⟩ | ⟨hr, -⟩ <;> cases hr

/-- A payload step that made progress has no rest of its frame behind it. -/
theorem andThen_payloadStep_frameRest (s : State) :
    andThen (payloadStep s) frameRest = payloadStep s := by
  rcases payloadStep_cases s with hn | ⟨op, len, ho, hl, hc | hc⟩
  · rw [payloadStep_unwritten hn]
    rfl
  · rw [payloadStep_waits ho hl hc]
    rfl
  · rw [payloadStep_dispatches ho hl hc]
    rfl

theorem andThen_lengthStep_frameRest (n : Nat) (read : Bytes → BitVec 64) (s : State) :
    andThen (lengthStep n read s) frameRest = andThen (lengthStep n read s) payloadStep := by
  unfold lengthStep
  split <;> rfl

/-- A pass is one parser step of R131 and the rest of the frame (log 15). -/
theorem parsePass_eq_andThen (s : State) : parsePass s = andThen (parserStepR131 s) frameRest := by
  unfold parserStepR131
  cases hp : s.pstate with
  | awaitingHeader =>
    rcases count_cases s with hc | ⟨b0, b1, rest, hb⟩
    · rw [parsePass_short hp hc, headerStepR133_short hc]
      rfl
    · rw [parsePass_header hp hb, headerStepR133_eq hb, andThen_checkedFrame]
      split
      · simp only [andThen_of_ne_progress _ (closePath_ne_progress _ _)]
      · rfl
  | awaitingExtended16Length =>
    rw [parsePass_rest (by simp [hp]), frameRest_ext16 hp, ← andThen_lengthStep_frameRest]
    rfl
  | awaitingExtended64Length =>
    rw [parsePass_rest (by simp [hp]), frameRest_ext64 hp, ← andThen_lengthStep_frameRest]
    rfl
  | awaitingPayload =>
    rw [parsePass_rest (by simp [hp]), frameRest_payload hp]
    exact (andThen_payloadStep_frameRest s).symm

theorem lengthStep_progress {n : Nat} {read : Bytes → BitVec 64}
    (h : lengthStep n read s = .ok (t, .progress)) :
    n ≤ s.count ∧ t = takeLength n (read (s.memRead 0 n)) s := by
  unfold lengthStep at h
  split at h <;> cases h
  exact ⟨by omega, rfl⟩

/-- A parser step after which the loop goes on has entered a frame, taken its length or dispatched it. -/
theorem parserStepR131_progress (h : parserStepR131 s = .ok (t, .progress)) :
    (s.pstate = .awaitingHeader ∧ 2 ≤ s.count ∧ ∃ op fin len7, t = enterFrame op fin len7 s) ∨
    (s.pstate ≠ .awaitingHeader ∧ ∃ n len, 2 ≤ n ∧ n ≤ s.count ∧ t = takeLength n len s) ∨
    (s.pstate ≠ .awaitingHeader ∧ ∃ op payload n, t = dispatched op payload (s.buf.drop n) s) := by
  unfold parserStepR131 at h
  cases hp : s.pstate <;> rw [hp] at h <;> dsimp only at h
  case awaitingHeader =>
    rcases count_cases s with hc | ⟨b0, b1, rest, hb⟩
    · cases (headerStepR133_short hc).symm.trans h
    · rw [headerStepR133_eq hb] at h
      rcases checkedFrame_result h with hr | ⟨_, hr⟩ | hpath
      · cases hr
      · cases hr
      · split at hpath
        · exact absurd hpath (closePath_ne_progress _ _ _)
        · cases hpath
          exact .inl ⟨rfl, by simp [State.count, hb], _, _, _, rfl⟩
  case awaitingExtended16Length =>
    obtain ⟨hn, ht⟩ := lengthStep_progress (n := 2) (read := fun b => (be16 b).setWidth 64) h
    exact .inr (.inl ⟨by simp, 2, _, le_rfl, hn, ht⟩)
  case awaitingExtended64Length =>
    obtain ⟨hn, ht⟩ := lengthStep_progress (n := 8) (read := be64) h
    exact .inr (.inl ⟨by simp, 8, _, by omega, hn, ht⟩)
  case awaitingPayload =>
    rcases payloadStep_cases s with hn | ⟨op, len, ho, hl, hc | hc⟩
    · cases (payloadStep_unwritten hn).symm.trans h
    · cases (payloadStep_waits ho hl hc).symm.trans h
    · cases (payloadStep_dispatches ho hl hc).symm.trans h
      exact .inr (.inr ⟨by simp, op, _, _, rfl⟩)

/-- A bound on the parser steps of a drive loop: a frame takes at least two bytes in its header step and
at most two steps after it, and one more step ends the loop (R149). -/
def State.stepBound (s : State) : Nat :=
  3 * (s.count / 2) + if s.pstate = .awaitingHeader then 1 else 2

theorem stepBound_pos (s : State) : 0 < s.stepBound := by
  unfold State.stepBound
  split <;> omega

theorem stepBound_le_driveFuel (s : State) : s.stepBound ≤ driveFuel s := by
  unfold State.stepBound driveFuel
  split <;> omega

theorem stepBound_lt_of_progress (h : parserStepR131 s = .ok (t, .progress)) :
    t.stepBound < s.stepBound := by
  rcases parserStepR131_progress h with ⟨hp, hc, op, fin, len7, rfl⟩ | ⟨hp, n, len, hn, hc, rfl⟩ |
    ⟨hp, op, payload, n, rfl⟩
  · have ht := enterFrame_inside op fin len7 s
    simp only [State.stepBound, State.count, hp, ht, enterFrame_buf, List.length_drop, if_true,
      if_false] at hc ⊢
    omega
  · simp only [State.stepBound, State.count, hp, takeLength, State.consume_buf, List.length_drop,
      reduceCtorEq, if_false] at hc ⊢
    omega
  · simp only [State.stepBound, State.count, hp, dispatched, List.length_drop, if_true, if_false]
    omega

theorem driving_of_progress (h : parserStepR131 s = .ok (t, .progress)) : t.driving = s.driving := by
  rcases parserStepR131_progress h with ⟨-, -, op, fin, len7, rfl⟩ | ⟨-, n, len, -, -, rfl⟩ |
    ⟨-, op, payload, n, rfl⟩
  · exact enterFrame_driving ..
  · rfl
  · rfl

/-- The drive loop may stand at any parser step: the rest of the frame is what its next pass runs. -/
theorem driveAll_frameRest (hd : s.driving = true) :
    thenDrive (settle (frameRest s)) = driveAll s := by
  by_cases hp : s.pstate = .awaitingHeader
  · rw [frameRest_header hp]
    rfl
  · rw [driveAll_parsePass hd, parsePass_rest hp]

/-- An answer without progress ends the loop, so nothing is driven after it. -/
theorem thenDrive_settle_of_ne_progress {p : Parsed} (h : ∀ u, p ≠ .ok (u, .progress)) :
    thenDrive (settle p) = settle p := by
  match p with
  | .ok (u, .progress) => exact absurd rfl (h u)
  | .ok (_, .needMore) | .ok (_, .failure _) => exact driveAll_stopped rfl
  | .ok (u, .closeExit) => exact driveAll_stopped (closeExit_driving u)
  | .error _ => rfl

/-- The machine's loop and R131's agree for every bound that R131's steps keep to. -/
theorem driveAll_eq_driveLoopR131 {n : Nat} (hd : s.driving = true) (hn : s.stepBound ≤ n) :
    driveAll s = driveLoopR131 n s := by
  induction n generalizing s with
  | zero => exact absurd (stepBound_pos s) (by omega)
  | succ n ih =>
    rw [driveAll_parsePass hd, parsePass_eq_andThen, driveLoopR131]
    split
    · next t h =>
      have ht : t.driving = true := (driving_of_progress h).trans hd
      have hlt := stepBound_lt_of_progress h
      rw [h, ← ih ht (by omega)]
      exact driveAll_frameRest ht
    · next h =>
      rw [andThen_of_ne_progress _ h, thenDrive_settle_of_ne_progress h]

end Reference

/-- Settles O24: both loops agree above R149's bound, and INGEST is the machine's loop. -/
theorem driveLoopAgreesWithR131 : Obligations.DriveLoopAgreesWithR131 := by
  refine ⟨fun s hd => driveAll_eq_driveLoopR131 hd (stepBound_le_driveFuel s),
    fun chunk sc s n hf hadm hn => ?_⟩
  rw [exec_ingest_eq hf hadm]
  exact driveAll_eq_driveLoopR131 rfl ((stepBound_le_driveFuel (beginIngest chunk sc s)).trans hn)

end Sys2Proof.Machine

namespace Sys2Proof.Machine

/-! ### Decoder: under the invariant no parser step faults (R23, R28, R138, R142) -/

section NoFault

variable {s : State}

theorem payloadStep_ne_error (ho : s.fOp ≠ none) (hl : s.fLen ≠ none) (f : Fault) :
    payloadStep s ≠ .error f := by
  intro h
  rcases payloadStep_cases s with hn | ⟨op, len, ho, hl, hc | hc⟩
  · exact hn.elim ho hl
  · cases (payloadStep_waits ho hl hc).symm.trans h
  · cases (payloadStep_dispatches ho hl hc).symm.trans h

theorem lengthThenPayload_ne_error (n : Nat) (read : Bytes → BitVec 64) (ho : s.fOp ≠ none)
    (f : Fault) : andThen (lengthStep n read s) payloadStep ≠ .error f := by
  unfold lengthStep
  split
  · simp [andThen]
  · exact payloadStep_ne_error (s := takeLength n _ s) ho (by simp [takeLength]) f

/-- The rest of a frame finds its opcode, and its length at AwaitingPayload. -/
theorem frameRest_ne_error (ho : s.pstate ≠ .awaitingHeader → s.fOp ≠ none)
    (hl : s.pstate = .awaitingPayload → s.fLen ≠ none) (f : Fault) : frameRest s ≠ .error f := by
  cases hp : s.pstate with
  | awaitingHeader => simp [frameRest_header hp]
  | awaitingExtended16Length =>
    rw [frameRest_ext16 hp]
    exact lengthThenPayload_ne_error _ _ (ho (by simp [hp])) f
  | awaitingExtended64Length =>
    rw [frameRest_ext64 hp]
    exact lengthThenPayload_ne_error _ _ (ho (by simp [hp])) f
  | awaitingPayload =>
    rw [frameRest_payload hp]
    exact payloadStep_ne_error (ho (by simp [hp])) (hl hp) f

/-- The header step writes what the steps after it read. -/
theorem dataPath_ne_error (op : Opcode) (fin : Bool) (len7 : BitVec 7) (s : State) (f : Fault) :
    dataPath op fin len7 s ≠ .error f := by
  refine frameRest_ne_error (fun _ => by simp) (fun hp => ?_) f
  rcases enterFrame_cases op fin len7 s with ⟨-, he⟩ | ⟨-, he⟩ | ⟨-, he⟩ <;> rw [he] at hp ⊢
  · simp
  · cases hp
  · cases hp

theorem closePath_ne_error (len7 : BitVec 7) (s : State) (f : Fault) :
    closePath len7 s ≠ .error f := by
  intro h
  rcases closePath_cases len7 s with ⟨-, he⟩ | ⟨-, -, he⟩ | ⟨-, -, -, he⟩ | ⟨_, _, -, -, -, -, he⟩ |
    ⟨_, _, -, -, -, -, he⟩ <;> cases he.symm.trans h

/-- A frame faults only where its own path does. -/
theorem checkedFrame_error {op : Opcode} {fin : Bool} {len7 : BitVec 7} {path : State → Parsed}
    {f : Fault} (h : checkedFrame op fin len7 path s = .error f) : path s = .error f := by
  unfold checkedFrame at h
  split at h
  · cases h
  · split at h
    · cases h
    · exact h

theorem State.Inv.frameRest_ne_error (hs : s.Inv) (f : Fault) : frameRest s ≠ .error f := by
  obtain ⟨hfit, -⟩ := hs
  refine Machine.frameRest_ne_error (fun hp => ?_) (fun hp => ?_) f
  · cases h : s.pstate <;> simp_all [State.frameFieldsFit, Option.isSome_iff_ne_none]
  · simp_all [State.frameFieldsFit, Option.isSome_iff_ne_none]

theorem State.Inv.parsePass_ne_error (hs : s.Inv) (f : Fault) : parsePass s ≠ .error f := by
  intro h
  by_cases hp : s.pstate = .awaitingHeader
  · rcases count_cases s with hc | ⟨b0, b1, rest, hb⟩
    · cases (parsePass_short hp hc).symm.trans h
    · rw [parsePass_header hp hb] at h
      have hpath := checkedFrame_error h
      split at hpath
      · exact closePath_ne_error _ _ _ hpath
      · exact dataPath_ne_error _ _ _ _ _ hpath
  · rw [parsePass_rest hp] at h
    exact hs.frameRest_ne_error f h

end NoFault

/-! ### Decoder: the three exits of the drive loop (R131, R132, R233) -/

/-- Neither a Fail nor a Done: no exit of the drive loop put it out. -/
def Event.quiet (e : Event) : Prop := e.isFail = false ∧ e.isDone = false

/-- From `s` to `t` the latch, the loop and the configuration stayed, and every new event is a quiet
one. -/
structure QuietSince (s t : State) : Prop where
  failed : t.failed = s.failed
  driving : t.driving = s.driving
  cfg : t.cfg = s.cfg
  events : ∃ pre, t.events = s.events ++ pre ∧ ∀ e ∈ pre, e.quiet

namespace QuietSince

variable {s t u : State}

theorem refl (s : State) : QuietSince s s := ⟨rfl, rfl, rfl, [], by simp, by simp⟩

/-- An update that puts out quiet events. -/
theorem of_append {new : List Event} (h : QuietSince s t) (hf : u.failed = t.failed)
    (hd : u.driving = t.driving) (hc : u.cfg = t.cfg) (he : u.events = t.events ++ new)
    (hnew : ∀ e ∈ new, e.quiet) : QuietSince s u := by
  obtain ⟨pre, hpre, hq⟩ := h.events
  refine ⟨hf.trans h.failed, hd.trans h.driving, hc.trans h.cfg, pre ++ new, ?_, ?_⟩
  · rw [he, hpre, List.append_assoc]
  · exact fun e hmem => (List.mem_append.mp hmem).elim (hq e) (hnew e)

/-- An update that puts out nothing. -/
theorem of_eq (h : QuietSince s t) (hf : u.failed = t.failed) (hd : u.driving = t.driving)
    (hc : u.cfg = t.cfg) (he : u.events = t.events) : QuietSince s u :=
  h.of_append (new := []) hf hd hc (by rw [he, List.append_nil]) (by simp)

/-- Entering a frame puts out nothing, in whatever state the parser is. -/
theorem enterFrame (op : Opcode) (fin : Bool) (len7 : BitVec 7) (h : QuietSince s t) :
    QuietSince s (enterFrame op fin len7 t) :=
  h.of_eq (by simp) (by simp) (by simp) (by simp)

/-- A parser step puts out a Dispatch, an echo or the flag events (R131). -/
theorem parserKeeps (s : State) : ParserKeeps (QuietSince s) where
  consume _ _ h := h.of_eq rfl rfl rfl rfl
  enterFrame _ op fin len7 _ _ _ h := h.enterFrame op fin len7
  takeLength _ _ _ _ h := h.of_eq rfl rfl rfl rfl
  dispatch _ _ _ _ _ _ h := h.of_append rfl rfl rfl rfl (List.forall_mem_singleton.mpr ⟨rfl, rfl⟩)
  echo u code _ h :=
    have ⟨_, he⟩ := echo_events code u
    h.of_append (by simp) (by simp) (by simp) he (List.forall_mem_singleton.mpr ⟨rfl, rfl⟩)
  acceptClose u h := h.of_append rfl rfl rfl ((acceptClose_events u).trans (List.append_assoc ..))
    (by simp [Event.quiet, Event.isFail, Event.isDone])

end QuietSince

/-- The close path takes its exit after the flag writes, and leaves the parser state (R205, R210). -/
theorem closePath_closeExit {P : State → Prop} {s t : State} {len7 : BitVec 7} (K : ParserKeeps P)
    (hs : P s) (h : closePath len7 s = .ok (t, .closeExit)) :
    ∃ u, P u ∧ u.pstate = s.pstate ∧ t = acceptClose u := by
  have hbody : P ((s.consume 2).consume len7.toNat) := K.consume _ _ (K.consume _ _ hs)
  rcases closePath_cases len7 s with ⟨-, he⟩ | ⟨-, -, he⟩ | ⟨-, -, -, he⟩ | ⟨_, _, -, -, -, -, he⟩ |
    ⟨code, _, -, -, -, hsc, he⟩ <;> cases he.symm.trans h
  · exact ⟨_, hbody, rfl, rfl⟩
  · exact ⟨_, K.echo ((s.consume 2).consume len7.toNat) code hsc hbody, by simp, rfl⟩

/-- A pass that takes the close exit was at AwaitingHeader and ended with the flag writes. -/
theorem parsePass_closeExit {P : State → Prop} {s t : State} (K : ParserKeeps P) (hs : P s)
    (h : parsePass s = .ok (t, .closeExit)) :
    ∃ u, P u ∧ u.pstate = .awaitingHeader ∧ t = acceptClose u := by
  by_cases hp : s.pstate = .awaitingHeader
  · rcases count_cases s with hc | ⟨b0, b1, rest, hb⟩
    · cases (parsePass_short hp hc).symm.trans h
    · rw [parsePass_header hp hb] at h
      rcases checkedFrame_result h with hr | ⟨_, hr⟩ | hpath
      · cases hr
      · cases hr
      · split at hpath
        · exact hp ▸ closePath_closeExit K hs hpath
        · rcases frameRest_result hpath with hr | ⟨hr, -⟩ <;> cases hr
  · rw [parsePass_rest hp] at h
    rcases frameRest_result h with hr | ⟨hr, -⟩ <;> cases hr

/-- How a drive loop from `s` ends at `t`: by an exit from a state that it came to quietly. -/
inductive LoopEnd (s t : State) : Prop
  | needMore (u : State) (hu : QuietSince s u) (ht : t = needMoreExit u)
  | failure (u : State) (c : FailCause) (hu : QuietSince s u) (ht : t = raiseFail c u)
  | closed (u : State) (hu : QuietSince s u) (hp : u.pstate = .awaitingHeader)
      (ht : t = closeExit (acceptClose u))

/-- Under the invariant a drive loop ends, however often it has passed before. -/
theorem driveAll_ends {s₀ s : State} (hd : s.driving = true) (hs : s.Inv) (hq : QuietSince s₀ s) :
    ∃ t, driveAll s = .next t ∧ LoopEnd s₀ t := by
  induction hn : s.passBound using Nat.strong_induction_on generalizing s with
  | _ n ih =>
    match hr : parsePass s with
    | .error f => exact absurd hr (hs.parsePass_ne_error f)
    | .ok (u, r) =>
      have hu : QuietSince s₀ u := (QuietSince.parserKeeps s₀).parsePass hq hr
      rcases parsePass_result hr with rfl | ⟨c, rfl⟩ | ⟨rfl, hlt⟩ | ⟨rfl, -⟩
      · exact ⟨_, driveAll_needMore hd hr, .needMore u hu rfl⟩
      · exact ⟨_, driveAll_failure hd hr, .failure u c hu rfl⟩
      · have hdu : u.driving = true := hu.driving.trans (hq.driving.symm.trans hd)
        obtain ⟨t, ht, hend⟩ := ih u.passBound (hn ▸ hlt) hdu
          (State.Inv.stepKeeps.toParserKeeps.parsePass hs hr) hu rfl
        exact ⟨t, (driveAll_progress hd hr).trans ht, hend⟩
      · obtain ⟨w, hw, hp, rfl⟩ := parsePass_closeExit (QuietSince.parserKeeps s₀) hq hr
        exact ⟨_, driveAll_closeExit hd hr, .closed w hw hp rfl⟩

/-- Settles O21: the drive loop that INGEST starts keeps to the invariant and ends by an exit. -/
theorem ingestEndsInOneOfThreeWays : Obligations.IngestEndsInOneOfThreeWays := by
  intro chunk sc s hs hf hadm
  have hover : overCap chunk s = false := (overCap_eq_false_iff chunk s).mpr hadm
  obtain ⟨t, ht, hend⟩ := driveAll_ends (s₀ := beginIngest chunk sc s) rfl
    (hs.beginIngest sc hf hover) (.refl _)
  rw [exec_ingest_eq hf hadm, ht]
  cases hend with
  | needMore u hu ht =>
    obtain ⟨pre, hpre, hq⟩ := hu.events
    exact ⟨t, pre, rfl, by simp [ht], hq, .inl ⟨by simp [ht, hu.failed, hf], by simp [ht, hpre]⟩⟩
  | failure u c hu ht =>
    obtain ⟨pre, hpre, hq⟩ := hu.events
    exact ⟨t, pre, rfl, by simp [ht], hq,
      .inr (.inl ⟨by simp [ht], c, Config.failReason u.draws, by simp [ht, hpre]⟩)⟩
  | closed u hu hp ht =>
    obtain ⟨pre, hpre, hq⟩ := hu.events
    exact ⟨t, pre, rfl, by simp [ht], hq, .inr (.inr ⟨by simp [ht, hu.failed, hf], by simp [ht, hp],
      by simp [ht, hpre, closeDone, hu.cfg]⟩)⟩

/-- Under the invariant a pass of the drive loop never faults. -/
theorem State.Inv.drivePass_ne_fault {s : State} (hs : s.Inv) (f : Fault) : drivePass s ≠ .fault f := by
  rw [drivePass_eq_settle, Ne, settle_fault_iff]
  exact hs.parsePass_ne_error f

/-- Under the invariant INGEST faults only over the cap (R25, R146). -/
theorem State.Inv.execIngest_fault {s : State} {chunk : Bytes} {sc : Bool} {f : Fault} (hs : s.Inv)
    (h : execIngest chunk sc s = .fault f) :
    f = .bufferOverflow ∧ s.failed = false ∧ overCap chunk s = true := by
  cases hf : s.failed with
  | true => simp [execIngest, hf] at h
  | false =>
    cases hc : overCap chunk s with
    | true => simp_all [execIngest]
    | false =>
      obtain ⟨t, ht, -⟩ := driveAll_ends rfl (hs.beginIngest sc hf hc) (.refl _)
      cases ht.symm.trans ((execIngest_drives chunk sc s hf hc).symm.trans h)

theorem overCap_eq_true_iff (chunk : Bytes) (s : State) :
    overCap chunk s = true ↔ ∃ cap, s.cfg.bufCap = some cap ∧ cap < s.buf.length + chunk.length := by
  unfold overCap
  split <;> simp_all

/-- Of the commands only INGEST can fault. -/
theorem exec_fault_ingest {r : Request} {i : Instr} {s : State} {f : Fault}
    (hi : decodeRequest r = .ok i) (h : exec i s = .fault f) :
    ∃ chunk sc, i = .ingest chunk sc := by
  rcases decodeRequest_cases hi with ⟨chunk, sc, rfl⟩ | ⟨op, payload, rfl⟩ | ⟨body, rfl⟩ |
    ⟨body, rfl⟩ | ⟨tag, ok, rfl⟩
  · exact ⟨chunk, sc, rfl⟩
  · rw [exec_encode] at h
    split at h <;> cases h
  · cases h
  · cases h
  · simp only [exec, execWrdone] at h
    split at h <;> cases h

/-- A step that faults is a pass of a running loop or the oldest command (R3, R56). -/
theorem step_fault_cases {s : State} {f : Fault} (h : step s = .fault f) :
    drivePass s = .fault f ∨ s.driving = false ∧ ∃ r rest i, s.port = r :: rest ∧
      decodeRequest r = .ok i ∧ exec i { s with port := rest } = .fault f := by
  unfold step at h
  split at h
  · exact .inl h
  · next hd =>
    split at h
    · cases h
    · next r rest hport =>
      split at h
      · next i hi => exact .inr ⟨by simpa using hd, r, rest, i, hport, hi, h⟩
      · cases h

/-- Settles O57: no pass of a running loop faults, and of the commands only INGEST does, over the cap. -/
theorem stepIsStuckOnlyOverTheCap : Obligations.StepIsStuckOnlyOverTheCap := by
  intro s f hs h
  rcases step_fault_cases h with hpass | ⟨hd, r, rest, i, hport, hi, he⟩
  · exact absurd hpass (hs.drivePass_ne_fault f)
  · obtain ⟨chunk, sc, rfl⟩ := exec_fault_ingest hi he
    have hu : State.Inv { s with port := rest } := hs
    obtain ⟨rfl, hf, hc⟩ := hu.execIngest_fault he
    obtain ⟨cap, hcap, hlt⟩ := (overCap_eq_true_iff _ _).mp hc
    exact ⟨rfl, hd, hf, r, rest, chunk, sc, cap, hport, hi, hcap, hlt⟩

end Sys2Proof.Machine

namespace Sys2Proof.Machine

/-! ### Decoder: a frame by its opcode and its header checks (R133 to R136) -/

/-- A row of the opcode map: an opcode with its instruction (R78). -/
abbrev FrameRow := Opcode × (Bool → BitVec 3 → Bool → BitVec 7 → Instr)

theorem isData_of_mem_dataFrames : ∀ p ∈ dataFrames, isData p.1 = true := by decide

theorem not_isData_of_mem : ∀ p ∈ reservedFrames ++ pingPongFrames ++ closeFrames,
    isData p.1 = false := by decide

theorem not_isControl_of_mem : ∀ p ∈ dataFrames ++ reservedFrames, ¬ isControl p.1 = true := by decide

theorem isControl_of_mem : ∀ p ∈ pingPongFrames ++ closeFrames, isControl p.1 = true := by decide

theorem ne_close_of_mem : ∀ p ∈ dataFrames ++ reservedFrames ++ pingPongFrames, p.1 ≠ 0x8 := by decide

/-- The rows that are no data opcode, which must have FIN set (R134). -/
theorem mem_allFrames_of_finRequired : ∀ p ∈ reservedFrames ++ pingPongFrames ++ closeFrames,
    p ∈ allFrames := by
  intro p hp
  simp only [allFrames, List.mem_append] at hp ⊢
  tauto

/-- A header passes with FIN set or a data opcode, and no control frame above the cap (R134, R135). -/
theorem headerCheck_eq_none {op : Opcode} {fin : Bool} {len7 : BitVec 7}
    (hfin : fin = true ∨ isData op = true) (hcap : isControl op = true → len7.toNat ≤ 125) :
    headerCheck op fin len7 = none := by
  rcases headerCheck_cases op fin len7 with ⟨-, hf, hd⟩ | ⟨-, -, hctl, hlong⟩ | ⟨h, -⟩
  · simp [hf, hd] at hfin
  · exact absurd (hcap hctl) hlong.not_ge
  · exact h

theorem headerCheck_fragmented {op : Opcode} (len7 : BitVec 7) (hd : isData op = false) :
    headerCheck op false len7 = some .fragmentedControl := by
  simp [headerCheck, fragmentedControl, hd]

section Row

variable {p : FrameRow} {fin : Bool} {rsv : BitVec 3} {mask : Bool} {len7 : BitVec 7} {s : State}
  {b0 b1 : Byte} {rest : Bytes}

theorem exec_row (hp : p ∈ allFrames) :
    exec (p.2 fin rsv mask len7) s = settle (checkedFrame p.1 fin len7
      (if p.1 = 0x8 then closePath len7 else dataPath p.1 fin len7) s) := by
  rw [frameInstr_of_mem_allFrames hp, exec_frameInstr, runFrame_eq]

/-- A frame with fewer than two bytes takes the need-more exit (log 20). -/
theorem exec_row_short (hp : p ∈ allFrames) (hc : s.count < 2) :
    exec (p.2 fin rsv mask len7) s = .next (needMoreExit s) := by
  rw [exec_row hp, checkedFrame, if_pos hc]
  rfl

/-- A frame that fails its header checks raises the failure and consumes nothing (R136, R233; log 18). -/
theorem exec_row_fails {c : FailCause} (hp : p ∈ allFrames) (hb : s.buf = b0 :: b1 :: rest)
    (hcheck : headerCheck p.1 fin len7 = some c) :
    failsWith (exec (p.2 fin rsv mask len7) s) c s := by
  have hcount : ¬ s.count < 2 := by simp [State.count, hb]
  rw [exec_row hp, checkedFrame, if_neg hcount, hcheck]
  exact ⟨_, _, rfl⟩

/-- A frame other than CLOSE that passes its header checks takes the data path. -/
theorem exec_row_passes (hp : p ∈ dataFrames ++ reservedFrames ++ pingPongFrames)
    (hfin : fin = true ∨ p ∈ dataFrames) (hcap : isControl p.1 = true → len7.toNat ≤ 125)
    (hb : s.buf = b0 :: b1 :: rest) :
    exec (p.2 fin rsv mask len7) s = settle (dataPath p.1 fin len7 s) := by
  have hcount : ¬ s.count < 2 := by simp [State.count, hb]
  have hcheck : headerCheck p.1 fin len7 = none :=
    headerCheck_eq_none (hfin.imp_right (isData_of_mem_dataFrames p)) hcap
  rw [exec_row (List.mem_append_left closeFrames hp), checkedFrame, if_neg hcount, hcheck,
    if_neg (ne_close_of_mem p hp)]

/-- A frame of the first thirteen rows may have any LEN7. -/
theorem exec_row_passes_ext (hp : p ∈ dataFrames ++ reservedFrames)
    (hfin : fin = true ∨ p ∈ dataFrames) (hb : s.buf = b0 :: b1 :: rest) :
    exec (p.2 fin rsv mask len7) s = settle (dataPath p.1 fin len7 s) :=
  exec_row_passes (List.mem_append_left _ hp) hfin (fun hctl => absurd hctl (not_isControl_of_mem p hp))
    hb

end Row

/-- Settles O29: the header's wait for its two bytes comes before every check. -/
theorem headerWaitsForTwoBytes : Obligations.HeaderWaitsForTwoBytes :=
  fun _ hp _ _ _ _ _ hc => exec_row_short hp hc

/-- Settles O37: with FIN set the control-frame cap is the one check that is left. -/
theorem longControlFrameFails : Obligations.LongControlFrameFails := by
  intro p hp rsv mask len7 b0 b1 rest s hb hlong
  have hall : p ∈ allFrames := mem_allFrames_of_finRequired p
    (List.append_assoc reservedFrames .. ▸ List.mem_append_right reservedFrames hp)
  exact exec_row_fails hall hb
    ((headerCheck_fin p.1 len7).trans (if_pos ⟨isControl_of_mem p hp, hlong⟩))

theorem QuietSince.failCount {s t : State} (h : QuietSince s t) : t.failCount = s.failCount := by
  obtain ⟨pre, hpre, hq⟩ := h.events
  have hnone : pre.countP Event.isFail = 0 :=
    List.countP_eq_zero.mpr fun e he => by simp [(hq e he).1]
  rw [State.failCount, State.failCount, hpre, List.countP_append, hnone, Nat.add_zero]

/-- Settles O36: without FIN a header of no data opcode fails the first check. A data frame passes it, and
its data path goes on or waits, having put out no Fail. -/
theorem fragmentedControlFails : Obligations.FragmentedControlFails := by
  refine ⟨fun p hp rsv mask len7 b0 b1 rest s hb => ?_, fun p hp rsv mask len7 b0 b1 rest s hb => ?_⟩
  · exact exec_row_fails (mem_allFrames_of_finRequired p hp) hb
      (headerCheck_fragmented len7 (not_isData_of_mem p hp))
  · rw [exec_row_passes_ext (List.mem_append_left _ hp) (.inr hp) hb]
    match hr : dataPath p.1 false len7 s with
    | .error f => exact absurd hr (dataPath_ne_error _ _ _ _ f)
    | .ok (u, r) =>
      have hu : QuietSince s u :=
        (QuietSince.parserKeeps s).frameRest ((QuietSince.refl s).enterFrame p.1 false len7) hr
      rcases frameRest_result hr with rfl | ⟨rfl, -⟩
      · exact ⟨needMoreExit u, rfl, hu.failed,
          by simpa [State.failCount, Event.isFail] using hu.failCount⟩
      · exact ⟨u, rfl, hu.failed, hu.failCount⟩

/-! ### Decoder: the data path on a frame that stands whole in the buffer (R138 to R143) -/

/-- Settles O30: the length is LEN7 itself. -/
theorem shortFrameIsDispatched : Obligations.ShortFrameIsDispatched := by
  intro p hp fin rsv mask len7 b0 b1 payload rest s hfin hb hshort hlen
  rw [exec_row_passes hp hfin (fun _ => hshort) hb,
    dataPath_whole (ext := []) (.inl ⟨hshort, rfl, hlen⟩) hb]
  rfl

/-- Settles O31: the length is the big-endian number of the two bytes after the header. -/
theorem sixteenBitFrameIsDispatched : Obligations.SixteenBitFrameIsDispatched := by
  intro p hp fin rsv mask b0 b1 e1 e0 payload rest s hfin hb hlen
  have hnum : payload.length = (be16 [e1, e0]).toNat :=
    hlen.trans (bigEndianFields e1 e0 0 0 0 0 0 0).1.symm
  rw [exec_row_passes_ext hp hfin hb,
    dataPath_whole (ext := [e1, e0]) (.inr (.inl ⟨rfl, rfl, hnum⟩)) hb]
  rfl

/-- Settles O32: the length is the big-endian number of the eight bytes after the header. -/
theorem sixtyFourBitFrameIsDispatched : Obligations.SixtyFourBitFrameIsDispatched := by
  intro p hp fin rsv mask b0 b1 e7 e6 e5 e4 e3 e2 e1 e0 payload rest s hfin hb hlen
  have hnum : payload.length = (be64 [e7, e6, e5, e4, e3, e2, e1, e0]).toNat :=
    hlen.trans (bigEndianFields e7 e6 e5 e4 e3 e2 e1 e0).2.symm
  rw [exec_row_passes_ext hp hfin hb,
    dataPath_whole (ext := [e7, e6, e5, e4, e3, e2, e1, e0]) (.inr (.inr ⟨rfl, rfl, hnum⟩)) hb]
  rfl

end Sys2Proof.Machine

namespace Sys2Proof.Machine

/-! ### Decoder: the data path on a frame whose bytes have not all come (R138 to R143) -/

/-- Inside a frame: the parser state and the fields as its steps write them, `rest` in the buffer. The
need-more exit from there is `waiting`. -/
def inFrame (ps : ParserState) (op : Opcode) (fin : Bool) (len : Option (BitVec 64)) (rest : Bytes)
    (s : State) : State :=
  { s with pstate := ps, buf := rest, fFin := some fin, fOp := some op, fLen := len }

section Waits

variable {s : State} {op : Opcode} {fin : Bool} {b0 b1 : Byte} {rest : Bytes}

theorem lengthThenPayload_waits {n : Nat} (read : Bytes → BitVec 64) (h : s.count < n) :
    andThen (lengthStep n read s) payloadStep = .ok (s, .needMore) := by
  rw [lengthStep, if_pos h]
  rfl

/-- The length field has come and the payload has not. -/
theorem lengthThenPayload_waitsForPayload {n : Nat} (read : Bytes → BitVec 64) {ext : Bytes}
    {ps : ParserState} {len : Option (BitVec 64)} (hext : ext.length = n)
    (h : rest.length < (read ext).toNat) :
    andThen (lengthStep n read (inFrame ps op fin len (ext ++ rest) s)) payloadStep =
      .ok (inFrame .awaitingPayload op fin (some (read ext)) rest s, .needMore) := by
  have hcount : ¬ (inFrame ps op fin len (ext ++ rest) s).count < n := by
    simp [State.count, inFrame, hext]
  have hread : (inFrame ps op fin len (ext ++ rest) s).memRead 0 n = ext := by
    simp [State.memRead, inFrame, ← hext]
  have htake : takeLength n (read ext) (inFrame ps op fin len (ext ++ rest) s) =
      inFrame .awaitingPayload op fin (some (read ext)) rest s := by
    simp [takeLength, inFrame, State.consume, ← hext]
  rw [lengthStep, if_neg hcount, hread, htake]
  exact payloadStep_waits (s := inFrame .awaitingPayload op fin (some (read ext)) rest s) rfl rfl h

theorem enterFrame_short {len7 : BitVec 7} (h : len7.toNat ≤ 125) (hb : s.buf = b0 :: b1 :: rest) :
    enterFrame op fin len7 s = inFrame .awaitingPayload op fin (some (len7.setWidth 64)) rest s := by
  simp [enterFrame, h, inFrame, State.consume, hb]

theorem enterFrame_ext16 (hb : s.buf = b0 :: b1 :: rest) :
    enterFrame op fin 126 s = inFrame .awaitingExtended16Length op fin s.fLen rest s := by
  simp [enterFrame, inFrame, State.consume, hb]

theorem enterFrame_ext64 (hb : s.buf = b0 :: b1 :: rest) :
    enterFrame op fin 127 s = inFrame .awaitingExtended64Length op fin s.fLen rest s := by
  simp [enterFrame, Config.shortMax, inFrame, State.consume, hb]

end Waits

/-- Settles O33: the header step gives the length, and the payload step waits for it. -/
theorem shortFrameWaitsForItsPayload : Obligations.ShortFrameWaitsForItsPayload := by
  intro p hp fin rsv mask len7 b0 b1 rest s hfin hb hshort hwait
  have hlen : rest.length < (len7.setWidth 64).toNat := by
    rwa [BitVec.toNat_setWidth_of_le (by decide)]
  rw [exec_row_passes hp hfin (fun _ => hshort) hb, dataPath, enterFrame_short hshort hb,
    frameRest_payload rfl, payloadStep_waits rfl rfl hlen]
  rfl

/-- Settles O34: the header step leaves the length open, and the extended-length step waits. -/
theorem extendedFrameWaitsForItsLength : Obligations.ExtendedFrameWaitsForItsLength := by
  intro p hp fin rsv mask b0 b1 rest s hfin hb
  refine ⟨fun hwait => ?_, fun hwait => ?_⟩
  · rw [exec_row_passes_ext hp hfin hb, dataPath, enterFrame_ext16 hb, frameRest_ext16 rfl,
      lengthThenPayload_waits _ hwait]
    rfl
  · rw [exec_row_passes_ext hp hfin hb, dataPath, enterFrame_ext64 hb, frameRest_ext64 rfl,
      lengthThenPayload_waits _ hwait]
    rfl

/-- Settles O35: the extended-length step takes its field, and the payload step waits for as many bytes. -/
theorem extendedFrameWaitsForItsPayload : Obligations.ExtendedFrameWaitsForItsPayload := by
  intro p hp fin rsv mask b0 b1 ext rest s hfin hb
  refine ⟨fun hext hwait => ?_, fun hext hwait => ?_⟩
  · have hlen : rest.length < ((be16 ext).setWidth 64).toNat := by
      rwa [BitVec.toNat_setWidth_of_le (by decide)]
    rw [exec_row_passes_ext hp hfin hb, dataPath, enterFrame_ext16 hb, frameRest_ext16 rfl,
      lengthThenPayload_waitsForPayload _ hext hlen]
    rfl
  · rw [exec_row_passes_ext hp hfin hb, dataPath, enterFrame_ext64 hb, frameRest_ext64 rfl,
      lengthThenPayload_waitsForPayload _ hext hwait]
    rfl

end Sys2Proof.Machine

namespace Sys2Proof.Machine

/-! ### Decoder: INGEST by the state it finds (R130 to R133, R147, R148) -/

/-- Settles O19: a failed decoder is INGEST's first case (R147). -/
theorem ingestAfterFailureDoesNothing : Obligations.IngestAfterFailureDoesNothing := by
  intro chunk sc s hf
  simp [exec, execIngest, hf]

/-- Settles O46: the frame that a pass runs is the one that the decoder reads from the same two bytes. -/
theorem driveRunsTheDecodedFrame : Obligations.DriveRunsTheDecodedFrame := by
  intro s b0 b1 rest hp hb
  have hpass : drivePass s = exec (decodeHeader b0 b1) s := by
    rw [drivePass_header s b0 b1 rest hp hb, decodeHeader, exec_frameInstr]
  refine ⟨hpass, fun hd => by rw [step, if_pos hd, hpass], fun hd fuel => ?_⟩
  rw [drive_succ fuel s hd, hpass]
  cases exec (decodeHeader b0 b1) s <;> rfl

/-- A pass whose parser state lacks bytes waits where it stands (R133, R140 to R143). -/
theorem parsePass_waits {s : State}
    (h : (s.pstate = .awaitingHeader ∧ s.count < 2) ∨
      (s.pstate = .awaitingExtended16Length ∧ s.count < 2) ∨
      (s.pstate = .awaitingExtended64Length ∧ s.count < 8) ∨
      (s.pstate = .awaitingPayload ∧
        ∃ op len, s.fOp = some op ∧ s.fLen = some len ∧ s.count < len.toNat)) :
    parsePass s = .ok (s, .needMore) := by
  rcases h with ⟨hp, hc⟩ | ⟨hp, hc⟩ | ⟨hp, hc⟩ | ⟨hp, op, len, ho, hl, hc⟩
  · exact parsePass_short hp hc
  · rw [parsePass_rest (by simp [hp]), frameRest_ext16 hp]
    exact lengthThenPayload_waits _ hc
  · rw [parsePass_rest (by simp [hp]), frameRest_ext64 hp]
    exact lengthThenPayload_waits _ hc
  · rw [parsePass_rest (by simp [hp]), frameRest_payload hp]
    exact payloadStep_waits ho hl hc

/-- Settles O22: the loop's first pass waits where INGEST began it. -/
theorem ingestWaitsForItsBytes : Obligations.IngestWaitsForItsBytes := by
  intro chunk sc s hf hadm n hwait
  rw [exec_ingest_eq hf hadm, driveAll_needMore rfl (parsePass_waits (s := beginIngest chunk sc s) hwait)]
  rfl

/-- A pass inside a frame whose missing bytes have come dispatches it (R140, R141, R143). -/
theorem parsePass_completes {s : State} {op : Opcode} {ext payload rest : Bytes} (ho : s.fOp = some op)
    (hb : s.buf = ext ++ (payload ++ rest))
    (h : (s.pstate = .awaitingPayload ∧ ext = [] ∧
        ∃ len, s.fLen = some len ∧ payload.length = len.toNat) ∨
      (s.pstate = .awaitingExtended16Length ∧ ext.length = 2 ∧ payload.length = (be16 ext).toNat) ∨
      (s.pstate = .awaitingExtended64Length ∧ ext.length = 8 ∧ payload.length = (be64 ext).toNat)) :
    parsePass s = .ok (dispatched op payload rest s, .progress) := by
  rcases h with ⟨hp, rfl, len, hl, hlen⟩ | ⟨hp, hext, hlen⟩ | ⟨hp, hext, hlen⟩
  · rw [parsePass_rest (by simp [hp]), frameRest_payload hp]
    exact payloadStep_whole ho hl hlen.symm hb
  · rw [parsePass_rest (by simp [hp]), frameRest_ext16 hp]
    exact lengthThenPayload_whole ho hext
      ((BitVec.toNat_setWidth_of_le (by decide)).trans hlen.symm) hb
  · rw [parsePass_rest (by simp [hp]), frameRest_ext64 hp]
    exact lengthThenPayload_whole ho hext hlen.symm hb

/-- Settles O23: the first pass dispatches the frame, and the second waits at the next header. -/
theorem ingestCompletesTheFrameInProgress : Obligations.IngestCompletesTheFrameInProgress := by
  intro chunk payload rest ext op sc s hf hadm ho hrest hb hframe
  have hdispatch : parsePass (beginIngest chunk sc s) =
      .ok (dispatched op payload rest (beginIngest chunk sc s), .progress) :=
    parsePass_completes ho (by rw [beginIngest_buf, hb, List.append_assoc]) hframe
  have hwait := parsePass_short (s := dispatched op payload rest (beginIngest chunk sc s)) rfl hrest
  rw [exec_ingest_eq hf hadm, driveAll_progress rfl hdispatch, driveAll_needMore rfl hwait]
  simp [needMoreExit, dispatched, beginIngest, State.emit, State.append, State.stopDrive]

/-! ### Decoder: INGEST of an accepted CLOSE (R132 (c), R205, R208 to R211) -/

/-- The state after an accepted CLOSE has left the buffer with `rest`: one echo unless sentClose reads
true, then the flag writes (R208, R210). -/
def closeAccepted (code : Option (BitVec 16)) (rest : Bytes) (s : State) : State :=
  acceptClose (if s.sentClose then { s with buf := rest } else echo code { s with buf := rest })

/-- An echo is one transport write of an echo frame under the next tag (R209, R211). -/
theorem echo_frame (code : Option (BitVec 16)) (s : State) :
    ∃ frame, echoOf s.cfg code frame ∧
      (echo code s).events = s.events ++ [.txWrite s.nextTag frame] := by
  unfold echo
  split
  · next c => exact ⟨_, ⟨_, c, rfl, by simp, by simp⟩, rfl⟩
  · split
    · next e he => exact ⟨_, ⟨_, e, rfl, by simp, by simp [he]⟩, rfl⟩
    · next he => exact ⟨_, ⟨_, _, rfl, by simp, by simp [he]⟩, rfl⟩

section CloseAccepted

variable (code : Option (BitVec 16)) (rest : Bytes) (s : State)

@[simp] theorem closeAccepted_buf : (closeAccepted code rest s).buf = rest := by
  unfold closeAccepted; split <;> simp
@[simp] theorem closeAccepted_pstate : (closeAccepted code rest s).pstate = s.pstate := by
  unfold closeAccepted; split <;> simp
@[simp] theorem closeAccepted_fFin : (closeAccepted code rest s).fFin = s.fFin := by
  unfold closeAccepted; split <;> simp
@[simp] theorem closeAccepted_fOp : (closeAccepted code rest s).fOp = s.fOp := by
  unfold closeAccepted; split <;> simp
@[simp] theorem closeAccepted_fLen : (closeAccepted code rest s).fLen = s.fLen := by
  unfold closeAccepted; split <;> simp
@[simp] theorem closeAccepted_failed : (closeAccepted code rest s).failed = s.failed := by
  unfold closeAccepted; split <;> simp
@[simp] theorem closeAccepted_sentClose : (closeAccepted code rest s).sentClose = s.sentClose := by
  unfold closeAccepted; split <;> simp
@[simp] theorem closeAccepted_receivedClose : (closeAccepted code rest s).receivedClose = true := by
  unfold closeAccepted; split <;> simp
@[simp] theorem closeAccepted_readyState : (closeAccepted code rest s).readyState = .closing := by
  unfold closeAccepted; split <;> simp
@[simp] theorem closeAccepted_cfg : (closeAccepted code rest s).cfg = s.cfg := by
  unfold closeAccepted; split <;> simp
@[simp] theorem closeAccepted_port : (closeAccepted code rest s).port = s.port := by
  unfold closeAccepted; split <;> simp

@[simp] theorem closeDone_closeAccepted : closeDone (closeAccepted code rest s) = closeDone s := by
  rw [closeDone, closeDone, closeAccepted_cfg]

@[simp] theorem closeDone_beginIngest (chunk : Bytes) (sc : Bool) :
    closeDone (beginIngest chunk sc s) = closeDone s := rfl

variable {s}

/-- With sentClose true a CLOSE is accepted without an echo (R208). -/
theorem closeAccepted_noEcho (h : s.sentClose = true) :
    (closeAccepted code rest s).nextTag = s.nextTag ∧
      (closeAccepted code rest s).inflight = s.inflight ∧
      (closeAccepted code rest s).events = s.events ++ [.setReadyStateClosing, .setReceivedClose] := by
  simp [closeAccepted, h]

/-- With sentClose false a CLOSE is echoed under the next tag before the flag writes (R208 to R211). -/
theorem closeAccepted_echoes (h : s.sentClose = false) :
    (closeAccepted code rest s).nextTag = s.nextTag + 1 ∧
      (∀ u, u ∈ (closeAccepted code rest s).inflight ↔ u ∈ s.inflight ∨ u = s.nextTag) ∧
      ∃ frame, echoOf s.cfg code frame ∧ (closeAccepted code rest s).events =
        s.events ++ [.txWrite s.nextTag frame, .setReadyStateClosing, .setReceivedClose] := by
  obtain ⟨frame, hframe, he⟩ := echo_frame code { s with buf := rest }
  have heq : closeAccepted code rest s = acceptClose (echo code { s with buf := rest }) :=
    congrArg acceptClose (if_neg (by simp [h]))
  rw [heq]
  exact ⟨by simp, fun u => by simp [mem_insertTag], frame, hframe, by simp [he]⟩

end CloseAccepted

/-- A pass over a whole CLOSE whose body decodes takes the close exit. -/
theorem parsePass_close {s : State} {b0 b1 : Byte} {body rest : Bytes} {code : Option (BitVec 16)}
    {reason : Option String} (hp : s.pstate = .awaitingHeader)
    (hb : s.buf = b0 :: b1 :: (body ++ rest)) (hheader : closeHeader b0 b1 body)
    (hbody : closeBodyFull body = .valid code reason) :
    parsePass s = .ok (closeAccepted code rest s, .closeExit) := by
  obtain ⟨hop, hfin, hlen, hcap, hone⟩ := hheader
  have hcount : ¬ s.count < 2 := by simp [State.count, hb]
  have hcheck : headerCheck 0x8 true (len7Of b1) = none :=
    headerCheck_eq_none (.inl rfl) (fun _ => hlen.trans_le hcap)
  have hwhole : ¬ s.count < 2 + body.length := by simp [State.count, hb]; omega
  have hread : (s.consume 2).memRead 0 body.length = body := by simp [State.memRead, hb]
  have hrest : (s.consume 2).consume body.length = { s with buf := rest } := by
    simp [State.consume, hb]
  rw [parsePass_header hp hb, hop, hfin, checkedFrame, if_neg hcount, hcheck, if_pos rfl]
  dsimp only
  rw [closePath_eq, hlen, if_neg hone, if_neg hwhole, hread, hrest, hbody]
  rfl

/-- Settles O26: INGEST's first pass takes the close exit, which ends the loop. -/
theorem closeExitLeavesTheRest : Obligations.CloseExitLeavesTheRest := by
  intro chunk body rest b0 b1 sc code reason s hf hadm hp hb hheader hbody
  have hpass := parsePass_close (s := beginIngest chunk sc s) hp hb hheader hbody
  rw [exec_ingest_eq hf hadm, driveAll_closeExit rfl hpass]
  refine ⟨_, rfl, by simp, by simp [hp], by simp, by simp [hf], by simp, by simp, by simp, by simp,
    by simp, by simp, by simp, by simp, fun hsc => ?_, fun hsc => ?_⟩
  · obtain ⟨htag, hinflight, hevents⟩ :=
      closeAccepted_noEcho code rest (s := beginIngest chunk sc s) hsc
    exact ⟨by simp [htag], by simp [hinflight], by simp [hevents]⟩
  · obtain ⟨htag, hinflight, frame, hframe, hevents⟩ :=
      closeAccepted_echoes code rest (s := beginIngest chunk sc s) hsc
    exact ⟨by simp [htag], fun u => by simp [hinflight], frame, hframe, by simp [hevents]⟩

end Sys2Proof.Machine

namespace Sys2Proof.Machine

/-! ### Close handling: every Dispatch is one that the header checks allow (R135, R145, R207) -/

/-- The frame in progress passed its checks, so its Dispatch is an allowed one. -/
theorem dispatchAllowed_of_frameChecked {s : State} {op : Opcode} {len : BitVec 64}
    (hchk : s.frameChecked = true) (ho : s.fOp = some op) (hl : s.fLen = some len)
    (hc : len.toNat ≤ s.count) :
    (Event.dispatch op (s.memRead 0 len.toNat)).dispatchAllowed = true := by
  obtain ⟨hop, -, hctl⟩ := (frameChecked_iff ho).mp hchk
  have hlen : (s.memRead 0 len.toNat).length = len.toNat := by simpa [State.memRead] using hc
  have hcap : isControl op = true → len.toNat ≤ 125 := by simpa [hl] using hctl
  simpa [Event.dispatchAllowed, hlen, Config.controlMax, imp_iff_not_or] using And.intro hop hcap

/-- The invariant with what it is to give of the event list: every Dispatch is an allowed one. -/
structure State.DispatchesAllowed (s : State) : Prop where
  inv : s.Inv
  allowed : s.events.all Event.dispatchAllowed = true

/-- Allowed events may be put out behind allowed ones. -/
theorem State.DispatchesAllowed.of_append {s t : State} {es : List Event} (hs : s.DispatchesAllowed)
    (ht : t.Inv) (hes : t.events = s.events ++ es) (hall : es.all Event.dispatchAllowed = true) :
    t.DispatchesAllowed :=
  ⟨ht, by rw [hes, List.all_append, hs.allowed, hall]; rfl⟩

theorem dispatchAllowed_closeDone (s : State) : (closeDone s).all Event.dispatchAllowed = true := by
  unfold closeDone
  split <;> rfl

/-- Only the payload step puts out a Dispatch, of the frame that the invariant speaks of. -/
theorem State.DispatchesAllowed.stepKeeps : StepKeeps State.DispatchesAllowed where
  consume _ n hs := ⟨hs.inv.consume n, hs.allowed⟩
  enterFrame s op fin len7 hp hop hcheck hs :=
    ⟨hs.inv.enterFrame hp hop hcheck, (enterFrame_events s op fin len7).symm ▸ hs.allowed⟩
  takeLength _ _ _ hp hs := ⟨hs.inv.takeLength hp, hs.allowed⟩
  dispatch s op len ho hl hc hs := by
    obtain ⟨-, hchk, -⟩ := hs.inv
    exact hs.of_append (hs.inv.dispatched op _ len.toNat) rfl
      (by simpa using dispatchAllowed_of_frameChecked hchk ho hl hc)
  echo s code _ hs := by
    obtain ⟨frame, he⟩ := echo_events code s
    exact hs.of_append (hs.inv.echo code) he rfl
  acceptClose s hs := hs.of_append (State.Inv.stepKeeps.acceptClose s hs.inv)
    ((acceptClose_events s).trans (List.append_assoc ..)) rfl
  needMoreExit s hs := hs.of_append (State.Inv.stepKeeps.needMoreExit s hs.inv) rfl rfl
  raiseFail s c hs := hs.of_append (State.Inv.stepKeeps.raiseFail s c hs.inv) rfl rfl
  closeExit s hs := hs.of_append (State.Inv.stepKeeps.closeExit s hs.inv) (closeExit_events s)
    (dispatchAllowed_closeDone s)
  takeRequest _ _ hs := ⟨hs.inv, hs.allowed⟩
  beginIngest _ _ sc hf hc hs := ⟨hs.inv.beginIngest sc hf hc, hs.allowed⟩
  encOut s frame hs := hs.of_append (State.Inv.stepKeeps.encOut s frame hs.inv) rfl rfl
  cbdOut s r hs := hs.of_append (State.Inv.stepKeeps.cbdOut s r hs.inv) rfl rfl
  removeTag _ tag hs := ⟨hs.inv.removeTag tag, hs.allowed⟩
  writeSentClose s hs := hs.of_append (State.Inv.stepKeeps.writeSentClose s hs.inv) rfl rfl

/-- Settles O52: the invariant holds of the frame that a payload step dispatches, and no other update puts
out a Dispatch. -/
theorem everyDispatchPassedItsChecks : Obligations.EveryDispatchPassedItsChecks := fun _ _ hs hall h =>
  List.all_eq_true.mp
    (State.DispatchesAllowed.stepKeeps.step ⟨hs, List.all_eq_true.mpr hall⟩ h).allowed

/-! ### Close handling: the close-body decode (R200 to R203) -/

/-- CBD_FULL puts out the full-mode decode. -/
theorem exec_cbdFull (body : Bytes) (s : State) : exec (.cbdFull body) s =
    .next { s with events := s.events ++ [.cbdOut (closeBodyFull body)] } := rfl

/-- CBD_CODE puts out the code-only decode. -/
theorem exec_cbdCode (body : Bytes) (s : State) : exec (.cbdCode body) s =
    .next { s with events := s.events ++ [.cbdOut (closeBodyCodeOnly body)] } := rfl

/-- A body shorter than two bytes has no code and no reason byte. -/
theorem closeBodyFull_short {b : Bytes} (h : b.length < 2) :
    closeBodyFull b = .valid none (some "") := by
  match b with
  | [] | [_] => rfl
  | _ :: _ :: _ => simp at h

theorem closeBodyCodeOnly_short {b : Bytes} (h : b.length < 2) :
    closeBodyCodeOnly b = .valid none none := by
  match b with
  | [] | [_] => rfl
  | _ :: _ :: _ => simp at h

/-- Settles O13: the code, where there is one, is checked before the reason is decoded. -/
theorem cbdFullEmitsTheDecodedBody : Obligations.CbdFullEmitsTheDecodedBody := by
  refine fun s => ⟨fun b hb => ?_, fun c1 c0 rb => ?_⟩
  · rw [exec_cbdFull, closeBodyFull_short hb]
  · rw [exec_cbdFull]
    cases hv : isValidStatusCode (be16 [c1, c0]) with
    | false => simp [closeBodyFull, closeCode, codeRejected, hv]
    | true =>
      cases hr : utf8DecodeStrict (stripBom rb) <;>
        simp [closeBodyFull, closeCode, codeRejected, reasonBytes, hv, hr]

/-- Settles O14: the rest behind a mark is not looked at again. -/
theorem oneByteOrderMarkIsStripped : Obligations.OneByteOrderMarkIsStripped := by
  refine ⟨fun rest => rfl, fun b hb => ?_⟩
  match b with
  | [] | [_] | [_, _] => rfl
  | b0 :: b1 :: b2 :: rest => exact if_neg (by simpa using hb)

/-- Settles O15: the code alone decides, and the reason bytes stand in no branch. -/
theorem cbdCodeEmitsTheCheckedCode : Obligations.CbdCodeEmitsTheCheckedCode := by
  refine fun s => ⟨fun b hb => ?_, fun c1 c0 rb => ?_⟩
  · rw [exec_cbdCode, closeBodyCodeOnly_short hb]
  · rw [exec_cbdCode]
    simp [closeBodyCodeOnly, closeCode, codeRejected]

/-- Settles O16: 03 E7 is the code 999, which the predicate rejects before a reason is read (R37). -/
theorem code999IsInvalid : Obligations.Code999IsInvalid := by
  have hcode : codeRejected (closeCode [0x03, 0xE7]) = true := by decide
  refine fun s => ⟨?_, ?_⟩
  · rw [exec_cbdFull, closeBodyFull, if_pos hcode]
  · rw [exec_cbdCode, closeBodyCodeOnly, if_pos hcode]

/-! ### Close handling: the completion of an echo write (R212, R213) -/

/-- WRDONE by whether its tag is in flight. -/
theorem exec_wrdone (tag : Nat) (ok : Bool) (s : State) : exec (.wrdone tag ok) s =
    if tag ∈ s.inflight then
      .next (if ok then State.writeSentClose { s with inflight := removeTag tag s.inflight }
        else { s with inflight := removeTag tag s.inflight })
    else .next s := rfl

/-- Settles O17: the tag is removed in both cases, and only a write that went well sets the flag. -/
theorem wrdoneCompletesAWriteInFlight : Obligations.WrdoneCompletesAWriteInFlight :=
  fun tag s htag => ⟨removeTag tag s.inflight, fun u => mem_removeTag tag u s.inflight,
    (exec_wrdone tag true s).trans (if_pos htag), (exec_wrdone tag false s).trans (if_pos htag)⟩

/-- Settles O18: a tag that is not in flight is WRDONE's other case. -/
theorem wrdoneIgnoresAnUnknownTag : Obligations.WrdoneIgnoresAnUnknownTag :=
  fun tag ok s htag => (exec_wrdone tag ok s).trans (if_neg htag)

/-! ### Close handling: a CLOSE frame by the bytes after its header (R204 to R206) -/

theorem close_mem_allFrames : ((0x8 : Opcode), Instr.close) ∈ allFrames :=
  List.mem_append_right _ (List.mem_singleton_self _)

section CloseFrame

variable {rsv : BitVec 3} {mask : Bool} {len7 : BitVec 7} {b0 b1 : Byte} {body rest : Bytes} {s : State}

/-- A CLOSE that passes its header checks takes the close path. -/
theorem exec_close_passes (hb : s.buf = b0 :: b1 :: rest) (hcap : len7.toNat ≤ 125) :
    exec (.close true rsv mask len7) s = settle (closePath len7 s) := by
  have hcount : ¬ s.count < 2 := by simp [State.count, hb]
  have hcheck : headerCheck 0x8 true len7 = none := headerCheck_eq_none (.inl rfl) (fun _ => hcap)
  refine (exec_row close_mem_allFrames).trans ?_
  rw [checkedFrame, if_neg hcount, hcheck, if_pos rfl]

/-- A CLOSE whose body stands whole in the buffer is answered with its frame taken off. -/
theorem exec_close_whole (hb : s.buf = b0 :: b1 :: (body ++ rest)) (hlen : body.length = len7.toNat)
    (hcap : len7.toNat ≤ 125) (hone : len7.toNat ≠ 1) :
    exec (.close true rsv mask len7) s =
      settle (closeAnswer (closeBodyFull body) { s with buf := rest }) := by
  have hwhole : ¬ s.count < 2 + body.length := by simp [State.count, hb]; omega
  have hread : (s.consume 2).memRead 0 body.length = body := by simp [State.memRead, hb]
  have hrest : (s.consume 2).consume body.length = { s with buf := rest } := by
    simp [State.consume, hb]
  rw [exec_close_passes hb hcap, closePath_eq, if_neg hone, ← hlen, if_neg hwhole, hread, hrest]

end CloseFrame

/-- Settles O38: the one-byte check comes before the wait for the body. -/
theorem oneByteCloseFails : Obligations.OneByteCloseFails := by
  intro rsv mask b0 b1 rest s hb
  rw [exec_close_passes hb (by decide), closePath_eq, if_pos (by decide)]
  exact ⟨_, _, rfl⟩

/-- Settles O39: the close path waits before it consumes anything. -/
theorem closeWaitsForItsBody : Obligations.CloseWaitsForItsBody := by
  intro rsv mask len7 b0 b1 rest s hb hcap hone hshort
  have hwait : s.count < 2 + len7.toNat := by simp [State.count, hb]; omega
  rw [exec_close_passes hb hcap, closePath_eq, if_neg hone, if_pos hwait]
  rfl

/-- Settles O40: an invalid body is answered with the failure alone. -/
theorem invalidCloseBodyFails : Obligations.InvalidCloseBodyFails := by
  intro rsv mask len7 b0 b1 body rest s hb hlen hcap hone hbody
  rw [exec_close_whole hb hlen hcap hone, hbody]
  exact ⟨_, _, rfl⟩

/-! ### Close handling: the answer to an accepted CLOSE (R208 to R211) -/

/-- The close exit from the flag writes: their two events, and Done where it is signalled. -/
theorem closeExit_acceptClose (s : State) : closeExit (acceptClose s) = { s with
    receivedClose := true, readyState := .closing, driving := false
    events := s.events ++ [.setReadyStateClosing, .setReceivedClose] ++ closeDone s } := by
  rw [closeExit_eq]
  simp [acceptClose, closeDone, State.writeReceivedClose, State.writeReadyStateClosing]

/-- An echo frame has two payload bytes, so it is eight bytes long (R209). -/
theorem encodeFrame_close (e1 e0 : Byte) (key : MaskKey) : encodeFrame 0x8 [e1, e0] key =
    [0x88, 0x82, key.k0, key.k1, key.k2, key.k3, e1 ^^^ key.k0, e0 ^^^ key.k1] := by
  simp [encodeFrame, lengthBytes_short, keyBytes, maskPayload, maskFrom, laneByte]

/-- The two bytes of a code that was read from two bytes are these (R76, R209). -/
theorem codeBytes_be16 (c1 c0 : Byte) : codeBytes (be16 [c1, c0]) = [c1, c0] := by
  have h1 := c1.isLt
  have h0 := c0.isLt
  simp [codeBytes, be16, beNat_cons, BitVec.toNat_eq, Nat.shiftRight_eq_div_pow]
  omega

/-- An accepted CLOSE that is echoed with the bytes `[e1, e0]`: the frame under the next tag, then the
flag writes. -/
theorem closeExit_writeEcho (e1 e0 : Byte) (s : State) :
    closeExit (acceptClose (writeEcho [e1, e0] s)) = { s with
      inflight := insertTag s.nextTag s.inflight, nextTag := s.nextTag + 1, receivedClose := true
      readyState := .closing, driving := false, draws := s.draws + 1
      events := s.events ++ [.txWrite s.nextTag
          [0x88, 0x82, (Config.rng4 s.draws).k0, (Config.rng4 s.draws).k1, (Config.rng4 s.draws).k2,
            (Config.rng4 s.draws).k3, e1 ^^^ (Config.rng4 s.draws).k0, e0 ^^^ (Config.rng4 s.draws).k1],
        .setReadyStateClosing, .setReceivedClose] ++ closeDone s } := by
  have hdone : closeDone (writeEcho [e1, e0] s) = closeDone s := rfl
  rw [closeExit_acceptClose, hdone, writeEcho, encodeFrame_close]
  simp

/-- A valid body is answered by the echo that sentClose calls for, the flag writes and the close exit. -/
theorem settle_closeAnswer_valid (code : Option (BitVec 16)) (reason : Option String) (s : State) :
    settle (closeAnswer (.valid code reason) s) =
      .next (closeExit (acceptClose (if s.sentClose then s else echo code s))) := rfl

/-- Settles O42: the answer without an echo is the flag writes and the close exit. -/
theorem closeIsNotEchoedTwice : Obligations.CloseIsNotEchoedTwice := by
  intro rsv mask len7 b0 b1 body rest code reason s hb hlen hcap hone hbody hsc
  rw [exec_close_whole hb hlen hcap hone, hbody, settle_closeAnswer_valid, if_pos hsc,
    closeExit_acceptClose]
  rfl

/-- Settles O41: the echo's payload is the code as it was received. -/
theorem closeEchoesItsCode : Obligations.CloseEchoesItsCode := by
  intro rsv mask len7 b0 b1 c1 c0 rb rest reason s hb hlen hcap hbody hsc
  have hecho : echo (some (be16 [c1, c0])) { s with buf := rest } =
      writeEcho [c1, c0] { s with buf := rest } :=
    congrArg (writeEcho · _) (codeBytes_be16 c1 c0)
  refine ⟨insertTag s.nextTag s.inflight, fun u => mem_insertTag s.nextTag u s.inflight, ?_⟩
  rw [exec_close_whole (body := c1 :: c0 :: rb) hb hlen.symm hcap (by omega), hbody,
    settle_closeAnswer_valid, if_neg (by simp [hsc]), hecho, closeExit_writeEcho]
  rfl

/-- The echo of a CLOSE without a code has two payload bytes: ECHO_NO_CODE's where it is given, and drawn
ones, before the key's draw, where it is not (R211; log 10). -/
theorem echo_none_eq (s : State) : ∃ e1 e0 n,
    (∀ e, s.cfg.echoNoCode = some e → e1 = e.extractLsb' 8 8 ∧ e0 = e.extractLsb' 0 8) ∧
    echo none s = writeEcho [e1, e0] { s with draws := n } := by
  cases he : s.cfg.echoNoCode with
  | some e =>
    exact ⟨e.extractLsb' 8 8, e.extractLsb' 0 8, s.draws, by simp, by simp [echo, he, codeBytes]⟩
  | none =>
    exact ⟨(Config.echoBytes s.draws).extractLsb' 8 8, (Config.echoBytes s.draws).extractLsb' 0 8,
      s.draws + 1, by simp, by simp [echo, he, codeBytes, State.drawn]⟩

/-- Settles O43: a body of no bytes has no code, and the echo is written with the bytes of R211. -/
theorem closeWithoutCodeEchoesEchoNoCode : Obligations.CloseWithoutCodeEchoesEchoNoCode := by
  intro rsv mask b0 b1 rest s hb hsc
  obtain ⟨e1, e0, n, hgiven, hecho⟩ := echo_none_eq { s with buf := rest }
  refine ⟨insertTag s.nextTag s.inflight, n + 1, (Config.rng4 n).k0, (Config.rng4 n).k1,
    (Config.rng4 n).k2, (Config.rng4 n).k3, e1, e0, fun u => mem_insertTag s.nextTag u s.inflight,
    hgiven, ?_⟩
  rw [exec_close_whole (body := []) hb rfl (by decide) (by decide), closeBodyFull_short (by decide),
    settle_closeAnswer_valid, if_neg (by simp [hsc]), hecho, closeExit_writeEcho]
  rfl

end Sys2Proof.Machine

namespace Sys2Proof.Machine

/-! ### Exceptions: the idle step (R246) -/

/-- Settles O47: with no loop running and an empty port, only the branch of `step` that answers its own
state is left. -/
theorem idleBlockHoldsItsState : Obligations.IdleBlockHoldsItsState := by
  intro s hidle hport
  simp [step, hidle, hport]

/-- Where a drive loop is running, a step is one pass of it. -/
theorem step_driving {s : State} (hd : s.driving = true) : step s = drivePass s := by
  simp [step, hd]

/-- Where none is running, a step is nothing at an empty port, or the oldest command (R3, R56, R246). -/
theorem step_idle_next_cases {s t : State} (hd : s.driving = false) (h : step s = .next t) :
    t = s ∨ ∃ r rest i, s.port = r :: rest ∧ decodeRequest r = .ok i ∧
      exec i { s with port := rest } = .next t := by
  cases hport : s.port with
  | nil =>
    cases (idleBlockHoldsItsState s hd hport).symm.trans h
    exact .inl rfl
  | cons r rest =>
    cases hr : decodeRequest r with
    | ok i =>
      exact .inr ⟨r, rest, i, rfl, hr, (stepRunsTheDecodedCommand s r rest i hd hport hr).symm.trans h⟩
    | error e => simp [step, hd, hport, hr] at h

/-! ### Exceptions: the failure is signalled once (R233, R234, R237) -/

/-- The event list holds one Fail if the decoder failed, and none otherwise. -/
def State.FailSignalled (s : State) : Prop := s.failCount = if s.failed then 1 else 0

namespace State.FailSignalled

variable {s t : State}

/-- An update that puts out no Fail and leaves the latch. -/
theorem of_append {es : List Event} (hs : s.FailSignalled) (hf : t.failed = s.failed)
    (he : t.events = s.events ++ es) (hes : es.countP Event.isFail = 0) : t.FailSignalled := by
  unfold FailSignalled failCount at hs ⊢
  rw [he, hf, List.countP_append, hs, hes, Nat.add_zero]

theorem of_quiet (hs : s.FailSignalled) (h : QuietSince s t) : t.FailSignalled := by
  unfold FailSignalled at hs ⊢
  rw [h.failCount, h.failed, hs]

/-- The failure of a decoder that has not failed is its first Fail. -/
theorem raiseFail (c : FailCause) (hf : s.failed = false) (hs : s.FailSignalled) :
    (raiseFail c s).FailSignalled := by
  have hnone : s.events.countP Event.isFail = 0 := by simpa [FailSignalled, failCount, hf] using hs
  simp [FailSignalled, failCount, hnone, Event.isFail]

/-- A drive loop that began before any failure ends with as many Fails as its latch says. -/
theorem of_loopEnd (hf : s.failed = false) (hs : s.FailSignalled) (h : LoopEnd s t) :
    t.FailSignalled := by
  cases h with
  | needMore u hu ht => exact ht ▸ (hs.of_quiet hu).of_append rfl rfl rfl
  | failure u c hu ht => exact ht ▸ (hs.of_quiet hu).raiseFail c (hu.failed.trans hf)
  | closed u hu _ ht =>
    have hq := (QuietSince.parserKeeps s).acceptClose u hu
    have hdone : (closeDone (acceptClose u)).countP Event.isFail = 0 := by
      unfold closeDone
      split <;> rfl
    exact ht ▸ (hs.of_quiet hq).of_append (closeExit_failed _) (closeExit_events _) hdone

end State.FailSignalled

/-- A pass of the drive loop goes on quietly or ends the loop by an exit (R131, R132). -/
theorem drivePass_quiet_or_ends {s t : State} (h : drivePass s = .next t) :
    QuietSince s t ∨ LoopEnd s t := by
  have K := QuietSince.parserKeeps s
  rw [drivePass_eq_settle] at h
  rcases settle_next_cases h with he | ⟨u, he, rfl⟩ | ⟨u, c, he, rfl⟩ | ⟨u, he, rfl⟩
  · exact .inl (K.parsePass (.refl s) he)
  · exact .inr (.needMore u (K.parsePass (.refl s) he) rfl)
  · exact .inr (.failure u c (K.parsePass (.refl s) he) rfl)
  · obtain ⟨w, hw, hp, rfl⟩ := parsePass_closeExit K (.refl s) he
    exact .inr (.closed w hw hp rfl)

/-- A running loop has not failed (R147, R233). -/
theorem State.Inv.not_failed_of_driving {s : State} (hs : s.Inv) (hd : s.driving = true) :
    s.failed = false := by
  obtain ⟨-, -, -, -, hstop⟩ := hs
  simpa [State.stopsOnFailure, hd] using hstop

/-- An INGEST on a failed decoder does nothing, and on another one its drive loop ends by an exit (R132,
R147). -/
theorem State.FailSignalled.execIngest {s t : State} {chunk : Bytes} {sc : Bool} (hinv : s.Inv)
    (hs : s.FailSignalled) (h : execIngest chunk sc s = .next t) : t.FailSignalled := by
  rcases execIngest_next_cases h with ⟨-, rfl⟩ | ⟨hf, hc, hd⟩
  · exact hs
  · obtain ⟨u, hu, hend⟩ := driveAll_ends rfl (hinv.beginIngest sc hf hc) (.refl _)
    cases hu.symm.trans hd
    exact State.FailSignalled.of_loopEnd (s := beginIngest chunk sc s) hf hs hend

/-- Of the commands only INGEST can put out a Fail (R231). -/
theorem State.FailSignalled.exec {s t : State} {r : Request} {i : Instr} (hinv : s.Inv)
    (hs : s.FailSignalled) (hi : decodeRequest r = .ok i) (h : exec i s = .next t) :
    t.FailSignalled := by
  rcases decodeRequest_cases hi with ⟨chunk, sc, rfl⟩ | ⟨op, payload, rfl⟩ | ⟨body, rfl⟩ |
    ⟨body, rfl⟩ | ⟨tag, ok, rfl⟩
  · exact hs.execIngest hinv h
  · obtain ⟨frame, rfl⟩ := execEncode_next h
    exact hs.of_append rfl rfl rfl
  · cases h
    exact hs.of_append rfl rfl rfl
  · cases h
    exact hs.of_append rfl rfl rfl
  · rcases execWrdone_next_cases h with rfl | rfl | rfl
    · exact hs
    · exact hs
    · exact hs.of_append rfl rfl rfl

/-- Under the invariant every step keeps the count of Fails at what the latch says. -/
theorem State.FailSignalled.step {s t : State} (hinv : s.Inv) (hs : s.FailSignalled)
    (h : step s = .next t) : t.FailSignalled := by
  cases hd : s.driving with
  | true =>
    rw [step_driving hd] at h
    rcases drivePass_quiet_or_ends h with hq | hend
    · exact hs.of_quiet hq
    · exact hs.of_loopEnd (hinv.not_failed_of_driving hd) hend
  | false =>
    rcases step_idle_next_cases hd h with rfl | ⟨r, rest, i, -, hi, he⟩
    · exact hs
    · exact State.FailSignalled.exec (s := { s with port := rest }) hinv hs hi he

/-! ### Exceptions: the life of an instance -/

/-- What every step of a machine keeps holds at the end of every run from where it holds. -/
theorem run_keeps {M : Host.Core} {P : M.State → Prop}
    (hstep : ∀ s t, P s → M.step s = .next t → P t) {n : Nat} {s t : M.State} (hs : P s)
    (h : M.run n s = .next t) : P t := by
  induction n generalizing s with
  | zero =>
    cases h
    exact hs
  | succ n ih =>
    unfold Host.Core.run at h
    split at h
    · next u hu => exact ih (hstep s u hs hu) h
    · cases h
    · cases h

/-- A decoder meets the invariant at construction, whatever its configuration and its ports show: its
buffer is empty, so within any cap (R25, R260). -/
theorem constructed_inv (cfg : Params) (port : List Request) (sc rc : Bool) (rs : ReadyState) :
    State.Inv { State.reset with
      cfg := cfg, port := port, sentClose := sc, receivedClose := rc, readyState := rs } :=
  ⟨rfl, rfl, rfl, (withinCap_iff _).mpr fun cap _ => Nat.zero_le cap, rfl⟩

/-- Settles O50: a Fail is put out only by a loop that was running, and no loop runs after a failure; the
two invariants together are kept along a life. -/
theorem failIsSignalledOnce : Obligations.FailIsSignalledOnce := by
  refine ⟨fun _ _ => State.FailSignalled.step, fun cfg port sc rc rs n t h => ?_⟩
  obtain ⟨-, hs⟩ : t.Inv ∧ t.FailSignalled :=
    run_keeps (M := core) (P := fun u : State => u.Inv ∧ u.FailSignalled)
      (fun _ _ ⟨hinv, hs⟩ hstep => ⟨State.Inv.stepKeeps.step hinv hstep, hs.step hinv hstep⟩)
      ⟨constructed_inv cfg port sc rc rs, rfl⟩ h
  rw [hs]
  split <;> simp

end Sys2Proof.Machine

namespace Sys2Proof.Machine

/-! ### Reset: the state after construction (R260) -/

/-- Settles O58: the state after construction is written out with these values. -/
theorem resetState : Obligations.ResetState :=
  ⟨rfl, rfl, rfl, rfl, rfl, rfl, rfl, rfl, rfl, rfl⟩

/-- Settles O49: the state after construction is a constructed one, with the default configuration and the
ports as the model lets them start (R8, R260). -/
theorem resetMeetsTheInvariant : Obligations.ResetMeetsTheInvariant :=
  constructed_inv State.reset.cfg [] false false .connectionOwn

/-- No named update writes the configuration (R260). -/
theorem cfg_stepKeeps (cfg : Params) : StepKeeps (fun s => s.cfg = cfg) where
  consume _ _ hs := hs
  enterFrame s op fin len7 _ _ _ hs := (enterFrame_cfg s op fin len7).trans hs
  takeLength _ _ _ _ hs := hs
  dispatch _ _ _ _ _ _ hs := hs
  echo s code _ hs := (echo_cfg s code).trans hs
  acceptClose _ hs := hs
  needMoreExit _ hs := hs
  raiseFail _ _ hs := hs
  closeExit s hs := (closeExit_cfg s).trans hs
  takeRequest _ _ hs := hs
  beginIngest _ _ _ _ _ hs := hs
  encOut _ _ hs := hs
  cbdOut _ _ hs := hs
  removeTag _ _ hs := hs
  writeSentClose _ hs := hs

/-- Settles O55: the configuration that a step starts from is kept by every named update. -/
theorem configurationIsFixed : Obligations.ConfigurationIsFixed :=
  fun s _ h => (cfg_stepKeeps s.cfg).step rfl h

/-! ### Hazards: a frame received with MASK = 1 (R271) -/

/-- A decoder that expects `n` bytes takes the first `n` of what is there and leaves the others. -/
theorem take_append_drop_append (n : Nat) (wire rest : Bytes) :
    wire.take n ++ (wire.drop n ++ rest) = wire ++ rest := by
  rw [← List.append_assoc, List.take_append_drop]

/-- With the key before a payload there are bytes enough for the payload's length. -/
theorem length_take_key_append (key m : Bytes) : ((key ++ m).take m.length).length = m.length :=
  List.length_take_of_le (by simp)

/-- A frame other than CLOSE whose header passes its checks is dispatched whole, in each length form. -/
theorem exec_row_whole {p : FrameRow} {fin : Bool} {rsv : BitVec 3} {mask : Bool} {len7 : BitVec 7}
    {b0 b1 : Byte} {ext payload rest : Bytes} {s : State}
    (hp : p ∈ dataFrames ++ reservedFrames ++ pingPongFrames) (hfin : fin = true ∨ p ∈ dataFrames)
    (hcap : isControl p.1 = true → len7.toNat ≤ 125) (hlen : frameLength len7 ext payload.length)
    (hb : s.buf = b0 :: b1 :: (ext ++ (payload ++ rest))) :
    exec (p.2 fin rsv mask len7) s = .next (dispatched p.1 payload rest s) := by
  rw [exec_row_passes hp hfin hcap hb, dataPath_whole hlen hb]
  rfl

/-- Of the rows other than CLOSE only PING and PONG are control frames (R79). -/
theorem mem_pingPongFrames_of_isControl {p : FrameRow}
    (hp : p ∈ dataFrames ++ reservedFrames ++ pingPongFrames) (hctl : isControl p.1 = true) :
    p ∈ pingPongFrames :=
  (List.mem_append.mp hp).resolve_left fun hdata => not_isControl_of_mem p hdata hctl

/-- An accepted CLOSE leaves the loop by the close exit (R132 (c), R205). -/
theorem exec_close_valid {rsv : BitVec 3} {mask : Bool} {len7 : BitVec 7} {b0 b1 : Byte}
    {body rest : Bytes} {code : Option (BitVec 16)} {reason : Option String} {s : State}
    (hb : s.buf = b0 :: b1 :: (body ++ rest)) (hlen : body.length = len7.toNat)
    (hcap : len7.toNat ≤ 125) (hone : len7.toNat ≠ 1) (hbody : closeBodyFull body = .valid code reason) :
    exec (.close true rsv mask len7) s = .next (closeExit (closeAccepted code rest s)) := by
  rw [exec_close_whole hb hlen hcap hone, hbody, settle_closeAnswer_valid]
  rfl

/-- Settles O44: MASK is not read, so the payload's length is counted from the key's first byte, and what
is beyond it stays. -/
theorem maskedFrameIsMisparsed : Obligations.MaskedFrameIsMisparsed := by
  refine ⟨fun p hp fin rsv len7 b0 b1 k0 k1 k2 k3 ext m rest s hfin hcap hlen hb => ?_,
    fun rsv len7 b0 b1 k0 k1 k2 k3 m rest s hlen hcap hone hb => ?_⟩
  · rw [List.append_assoc, ← take_append_drop_append m.length (_ ++ m)] at hb
    exact exec_row_whole hp hfin (fun hctl => hcap (mem_pingPongFrames_of_isControl hp hctl))
      ((length_take_key_append _ m).symm ▸ hlen) hb
  · rw [← take_append_drop_append m.length] at hb
    have hbody := (length_take_key_append [k0, k1, k2, k3] m).trans hlen
    refine ⟨fun code reason hvalid => ?_, fun hinvalid => ?_⟩
    · exact ⟨_, exec_close_valid hb hbody hcap hone hvalid, by simp, by simp, by simp, by simp⟩
    · obtain ⟨reason, n, hfails⟩ :=
        invalidCloseBodyFails rsv true len7 b0 b1 _ _ s hb hbody hcap hone hinvalid
      exact ⟨_, reason, hfails, rfl, rfl⟩

/-! ### Hazards: a second CLOSE before the first echo's write completes (R270, R272) -/

/-- From `s` to `t` one CLOSE was accepted and echoed under the next tag, and `rest` left in the buffer
(R205, R208 to R211). -/
structure CloseEchoed (code : Option (BitVec 16)) (rest : Bytes) (s t : State) : Prop where
  buf : t.buf = rest
  pstate : t.pstate = .awaitingHeader
  failed : t.failed = false
  cfg : t.cfg = s.cfg
  nextTag : t.nextTag = s.nextTag + 1
  inflight : ∀ tag, tag ∈ t.inflight ↔ tag ∈ s.inflight ∨ tag = s.nextTag
  events : ∃ frame, echoOf s.cfg code frame ∧ t.events = s.events ++
    [.txWrite s.nextTag frame, .setReadyStateClosing, .setReceivedClose] ++ closeDone s

/-- An INGEST that brings a whole CLOSE to the head of the buffer echoes it where sentClose reads false. -/
theorem ingest_closeEchoed {chunk body rest : Bytes} {b0 b1 : Byte} {code : Option (BitVec 16)}
    {reason : Option String} {s : State} (hf : s.failed = false) (hadm : s.admits chunk)
    (hp : s.pstate = .awaitingHeader) (hb : s.buf ++ chunk = b0 :: b1 :: (body ++ rest))
    (hheader : closeHeader b0 b1 body) (hbody : closeBodyFull body = .valid code reason) :
    ∃ t, exec (.ingest chunk false) s = .next t ∧ CloseEchoed code rest s t := by
  obtain ⟨t, ht, hbuf, hpstate, -, hfailed, -, -, -, -, -, -, hcfg, -, -, hecho⟩ :=
    closeExitLeavesTheRest chunk body rest b0 b1 false code reason s hf hadm hp hb hheader hbody
  obtain ⟨htag, hinflight, hevents⟩ := hecho rfl
  exact ⟨t, ht, hbuf, hpstate, hfailed, hcfg, htag, hinflight, hevents⟩

/-- Settles O27: an echo leaves the decoder awaiting a header and does not write sentClose (R212), so the
second CLOSE is the first one's case again, from the next tag. -/
theorem secondCloseEchoesAgain : Obligations.SecondCloseEchoesAgain := by
  intro a b body body' rest rest' b0 b1 c0 c1 code code' reason reason' s hf hadm hp hb hheader hbody
    hb' hheader' hbody'
  obtain ⟨t, ht, first⟩ := ingest_closeEchoed hf hadm hp hb hheader hbody
  obtain ⟨frame, hframe, hevents⟩ := first.events
  refine ⟨t, frame, ht, hframe, hevents, first.buf, (first.inflight _).mpr (.inr rfl),
    fun u hup hubuf huf hucfg hutag huadm => ?_⟩
  have hbuf : u.buf ++ b = c0 :: c1 :: (body' ++ rest') := by rw [hubuf, first.buf, hb']
  have hcfg : u.cfg = s.cfg := hucfg.trans first.cfg
  have htag : u.nextTag = s.nextTag + 1 := hutag.trans first.nextTag
  have hdone : closeDone u = closeDone s := by rw [closeDone, closeDone, hcfg]
  obtain ⟨v, hv, second⟩ := ingest_closeEchoed (huf.trans first.failed) huadm (hup.trans first.pstate)
    hbuf hheader' hbody'
  obtain ⟨frame', hframe', hevents'⟩ := second.events
  rw [hcfg] at hframe'
  rw [htag, hdone] at hevents'
  exact ⟨v, frame', hv, hframe', hevents', second.buf, second.nextTag.trans (by rw [htag]),
    htag ▸ second.inflight⟩

end Sys2Proof.Machine
